-- ==== Sys2Proof/Word.lean ====
section
/-! DEFINITION. The words of the 2416: bytes, register words, epoch values, and the numbers that name its records. -/

namespace Sys2Proof

/-- A byte on a lane, and a byte field of a record. -/
abbrev Byte := BitVec 8

/-- One sixteen-bit word of the register window (R177). -/
abbrev Word := BitVec 16

/-- An epoch value: a count of ticks, 0..2^48 - 1 (R146). -/
abbrev Epoch := BitVec 48

/-- A duty's Index, 0..63 (R1). -/
abbrev DutyIx := Fin 64

/-- A target's Index, 0..31 (R90). -/
abbrev TargetIx := Fin 32

/-- A lane's number, 0..3 (R115). -/
abbrev LaneIx := Fin 4

/-- A share lock, counted from 0: share lock n of R60 (1..8) is n - 1 here. -/
abbrev LockIx := Fin 8

end Sys2Proof
end

