-- ==== Sys2Proof/Config.lean ====
section
/-! DEFINITION. The constants of the part: capacities and ranges (Tables 0-2, 1-1, 5-1, 6-1). The spec leaves no value open,
so there is no free value here. -/

namespace Sys2Proof.Config

/-- The greatest epoch value, at which the epoch saturates (R146). -/
def epochMax : Nat := 281474976710655

/-- Records the incident queue holds at most (R153). -/
def queueCapacity : Nat := 16

/-- The least Interval (Table 1-1). -/
def intervalMin : Nat := 16

/-- The greatest Interval (Table 1-1). -/
def intervalMax : Nat := 16777215

/-- The longest Payload and the longest Readback, in bytes (Table 1-1). -/
def payloadMax : Nat := 8

/-- The longest hold payload, in bytes (Table 5-1). -/
def holdPayloadMax : Nat := 4

/-- The greatest Defer limit and the greatest Advance limit (Table 1-1). -/
def limitMax : Nat := 15

/-- The greatest Retry limit of a duty and the greatest Hold retry limit of a target (Tables 1-1, 5-1). -/
def retryMax : Nat := 3

/-- The greatest Quiet time (Table 1-1). -/
def quietMax : Nat := 4095

/-- The greatest Share group (Table 1-1). -/
def shareGroupMax : Nat := 8

/-- The value at which Misses saturates (R29). -/
def missesMax : Nat := 65535

/-- The count of consecutive INTEGRITY outcomes that latches a suspension (R126). -/
def integrityLatch : Nat := 3

/-- One unit of the Maximum hold, in ticks (Table 5-1). -/
def maximumHoldUnit : Nat := 64

end Sys2Proof.Config
end

