-- ==== Sys2Proof/Syntax.lean ====
section
/-! DEFINITION. The commands of the block: one constructor for each row of spec/opcode_table.json, in the table's order. -/

namespace Sys2Proof

/-- A command: what the host, a deadline, a target or the board does to the part, as one whole step. -/
inductive Instr where
  -- the codes of COMMAND (Table 10-3); their parameters stand in the staging area
  | defineDuty
  | startDuty
  | stopDuty
  | retireDuty
  | reviveDuty
  | setOwed
  | prodDuty
  | snapshotDuty
  | defineTarget
  | dropTarget
  | holdTarget
  | releaseTarget
  | snapshotTarget
  | configureLane
  | openLane
  | closeLane
  | blackoutLane
  | resumeLane
  | clearSuspect
  | abort
  | schedulerReset
  /-- An unassigned code written to COMMAND while the port is READY (R166). -/
  | unknownCode (code : Byte)
  /-- A code written to COMMAND while the port is WORKING (R169). -/
  | commandDiscarded (code : Byte)
  -- the other register accesses (Table 10-1)
  | portClear (value : Word)
  | incidentPop (value : Word)
  | eventSummaryWrite (value : Word)
  | eventEnableWrite (value : Word)
  | trimValueWrite (value : Word)
  | trimWindowWrite (value : Word)
  | epochLoRead
  /-- A write of `value` at the word address A7..A1 `reg`, that is at byte offset 2 * reg (R177). -/
  | registerWrite (reg : BitVec 7) (value : Word)
  | reset
  | powerOn
  -- the time base
  | tickCompletion
  | windowStart
  | partEnd
  -- deadlines that the epoch reaches
  | boundary (duty : DutyIx)
  | startTime (duty : DutyIx)
  | stopTime (duty : DutyIx)
  | backoffEnd (duty : DutyIx)
  | responseDeadline (lane : LaneIx)
  | quietEnd (lane : LaneIx)
  | blackoutEnd (lane : LaneIx)
  | autoResume (lane : LaneIx)
  | minimumHoldEnd (target : TargetIx)
  | maximumHoldEnd (target : TargetIx)
  | settleEnd (target : TargetIx)
  -- what a lane reports of a frame
  | statusRead (lane : LaneIx) (value : Byte)
  | dataByte (lane : LaneIx) (value : Byte)
  | checkByte (lane : LaneIx) (value : Byte)
  | addressNotAcknowledged (lane : LaneIx)
  | requestByteRefused (lane : LaneIx)
  | clockLineHold (lane : LaneIx)
  | clockLineRelease (lane : LaneIx)
  | refclkCycle
  deriving DecidableEq, Repr

end Sys2Proof
end

