-- ==== Sys2Proof/Decode.lean ====
section
/-! DEFINITION. The command codes of Table 10-3, and `decodeTableWord`, which reads no word: spec/opcode_table.json gives no
row any bits. -/

namespace Sys2Proof

/-- The code of a command that is given by a write to COMMAND, and none for the other rows (Table 10-3). -/
def codeOf : Instr → Option Byte
  | .defineDuty => some 0x01
  | .startDuty => some 0x02
  | .stopDuty => some 0x03
  | .retireDuty => some 0x04
  | .reviveDuty => some 0x05
  | .setOwed => some 0x06
  | .prodDuty => some 0x07
  | .snapshotDuty => some 0x08
  | .defineTarget => some 0x10
  | .dropTarget => some 0x11
  | .holdTarget => some 0x12
  | .releaseTarget => some 0x13
  | .snapshotTarget => some 0x14
  | .configureLane => some 0x20
  | .openLane => some 0x21
  | .closeLane => some 0x22
  | .blackoutLane => some 0x23
  | .resumeLane => some 0x24
  | .clearSuspect => some 0x25
  | .abort => some 0x30
  | .schedulerReset => some 0x31
  | .unknownCode _ => none
  | .commandDiscarded _ => none
  | .portClear _ => none
  | .incidentPop _ => none
  | .eventSummaryWrite _ => none
  | .eventEnableWrite _ => none
  | .trimValueWrite _ => none
  | .trimWindowWrite _ => none
  | .epochLoRead => none
  | .registerWrite _ _ => none
  | .reset => none
  | .powerOn => none
  | .tickCompletion => none
  | .windowStart => none
  | .partEnd => none
  | .boundary _ => none
  | .startTime _ => none
  | .stopTime _ => none
  | .backoffEnd _ => none
  | .responseDeadline _ => none
  | .quietEnd _ => none
  | .blackoutEnd _ => none
  | .autoResume _ => none
  | .minimumHoldEnd _ => none
  | .maximumHoldEnd _ => none
  | .settleEnd _ => none
  | .statusRead _ _ => none
  | .dataByte _ _ => none
  | .checkByte _ _ => none
  | .addressNotAcknowledged _ => none
  | .requestByteRefused _ => none
  | .clockLineHold _ => none
  | .clockLineRelease _ => none
  | .refclkCycle => none

/-- The rows of Table 10-3, in the order of their codes. -/
def assignedCommands : List Instr :=
  [.defineDuty, .startDuty, .stopDuty, .retireDuty, .reviveDuty, .setOwed, .prodDuty, .snapshotDuty] ++
  [.defineTarget, .dropTarget, .holdTarget, .releaseTarget, .snapshotTarget] ++
  [.configureLane, .openLane, .closeLane, .blackoutLane, .resumeLane, .clearSuspect] ++
  [.abort, .schedulerReset]

/-- The command that a code names, and none for an unassigned code, 0x00 among them (R178). -/
def commandOfCode (code : Byte) : Option Instr :=
  assignedCommands.find? fun i => codeOf i == some code

/-- The command that a word spells by the table's bits: no row of spec/opcode_table.json has bits, so none. -/
def decodeTableWord (_nbits _w : Nat) : Option Instr := none

end Sys2Proof
end

