-- ==== Sys2Proof/Machine/State.lean ====
section
/-! DEFINITION. The state of the block as plain data: every record of Table 0-1, the queue of waiting commands, and the state
after power-on. -/

namespace Sys2Proof.Machine

-- Duty table (chapter 1)

/-- The states of a duty (R4). -/
inductive DutyState where
  | vacant | stopped | waiting | running | faulted
  deriving DecidableEq, Repr

/-- The Last outcome of a duty (Table 1-2). -/
inductive LastOutcome where
  | none | credited | deviation | busy | noAnswer | timeout | rejected | integrity | busyLimit | abandoned
  deriving DecidableEq, Repr

/-- The definition part of a duty record (R1, Table 1-1); the Index is the record's place in the table. -/
structure DutyDef where
  target : TargetIx := 0
  actionCode : Byte := 0
  payload : List Byte := []
  readbackLength : Nat := 0
  compare : Bool := false
  expected : Option (List Byte) := none
  mask : Option (List Byte) := none
  interval : Nat := 0
  deferLimit : Nat := 0
  advanceLimit : Nat := 0
  initialOwed : Option Int := none
  retryLimit : Nat := 0
  busyLimit : Nat := 0
  quietTime : Nat := 0
  shareGroup : Nat := 0
  advancePermitted : Bool := false
  settleSafe : Bool := false
  haltOnDeviation : Bool := false
  startTime : Option Epoch := none
  stopTime : Option Epoch := none
  deriving DecidableEq, Repr

/-- A duty record: its definition part and its runtime part (R3, Table 1-2). The default is the VACANT record of R14. -/
structure Duty where
  defn : DutyDef := {}
  state : DutyState := .vacant
  owed : Int := 0
  /-- `none` is a suspended Next boundary. -/
  nextBoundary : Option Epoch := none
  catchUp : Bool := false
  forced : Bool := false
  overdue : Bool := false
  ticket : Bool := false
  inFlight : Bool := false
  retirePending : Bool := false
  attempts : Nat := 0
  busyCount : Nat := 0
  backoffUntil : Option Epoch := none
  completions : BitVec 32 := 0
  misses : Nat := 0
  lastOutcome : LastOutcome := .none
  deriving DecidableEq, Repr

-- Target table (chapter 5)

/-- The hold states of a target (R96). -/
inductive HoldState where
  | undefined | active | entering | held | leaving | settling | stranded
  deriving DecidableEq, Repr

/-- The hold transaction a target has asked for, and its progress (R91). -/
inductive HoldTransaction where
  | none | entryPending | entryInFlight | exitPending | exitInFlight
  deriving DecidableEq, Repr

/-- Which of a target's time limits is running (R91). -/
inductive DeadlineKind where
  | none | minimum | maximum | settle
  deriving DecidableEq, Repr

/-- The definition part of a target record (R90, Table 5-1). -/
structure TargetDef where
  lane : LaneIx := 0
  address : Byte := 0
  responseTimeout : Nat := 0
  busyBackoff : Nat := 0
  entryCode : Byte := 0
  entryPayload : List Byte := []
  exitCode : Byte := 0
  exitPayload : List Byte := []
  minimumHold : Nat := 0
  /-- In units of 64 ticks; 0 is none. -/
  maximumHold : Nat := 0
  settleTime : Nat := 0
  holdRetryLimit : Nat := 0
  deriving DecidableEq, Repr

/-- A target record: its definition part and its runtime part (R91, Table 5-2). The default is the UNDEFINED record of R95. -/
structure Target where
  defn : TargetDef := {}
  holdState : HoldState := .undefined
  holdTransaction : HoldTransaction := .none
  releasePending : Bool := false
  holdAttempts : Nat := 0
  heldSince : Option Epoch := none
  deadlineKind : DeadlineKind := .none
  deadline : Option Epoch := none
  deriving DecidableEq, Repr

-- Transaction engine (chapter 4)

/-- The Kind of a transaction, with the Duty of a DUTY transaction (R69). -/
inductive TxnKind where
  | duty (d : DutyIx) | holdEntry | holdExit
  deriving DecidableEq, Repr

/-- The Phase of an in-flight record (R70). -/
inductive Phase where
  | request | wait | response
  deriving DecidableEq, Repr

/-- The in-flight record of a lane (R68, Table 4-1). -/
structure InFlight where
  kind : TxnKind
  target : TargetIx
  attempt : Nat
  forcedMark : Bool
  issueEpoch : Epoch
  deadline : Epoch
  phase : Phase := .request
  deadlinePassed : Bool := false
  status : Option Byte := none
  data : List Byte := []
  /-- DEDUCED (log 7): a tick has begun since the end of the last status read and of the stop that follows it, so that a read
  of PENDING may be repeated (R133, R136: "at the first tick that begins after"). -/
  tickSinceRead : Bool := false
  deriving DecidableEq, Repr

/-- The classified result of one transaction (R73). BUSY-LIMIT is no frame result: the owner makes it of BUSY (R78, R85). -/
inductive Outcome where
  | credited | deviation | busy | noAnswer | timeout | rejected | integrity | abandoned
  deriving DecidableEq, Repr

-- Lanes (chapter 6)

/-- The Mode of a lane (Table 6-1). -/
inductive LaneMode where
  | select | addressed
  deriving DecidableEq, Repr

/-- The Bit order of a SELECT lane (Table 6-1). -/
inductive BitOrder where
  | msbFirst | lsbFirst
  deriving DecidableEq, Repr

/-- The gate of a lane (R118). -/
inductive Gate where
  | closed | opened | blackout | suspect
  deriving DecidableEq, Repr

/-- The activity of a lane (R130). -/
inductive Activity where
  | idle | busy | quiet
  deriving DecidableEq, Repr

/-- How a pin is driven: low, high, or not at all (released, high impedance). -/
inductive Level where
  | low | high | released
  deriving DecidableEq, Repr

/-- The pins of a lane between bits (R140, Table 0-6). -/
structure Pins where
  clk : Level := .released
  dout : Level := .released
  /-- LnSEL7..LnSEL0; a 1 is high, deasserted. -/
  sel : Byte := 0xFF
  /-- Whether LnDI is pulled up. -/
  pullUp : Bool := false
  deriving DecidableEq, Repr

/-- A lane's record (R115, Table 6-1), with its quiet time (R64), its pins (R140) and its clock line. DEDUCED (log 11): the
Mode, Bit order and Clock polarity that are 0 at reset are those of Table 10-5. -/
structure Lane where
  configured : Bool := false
  mode : LaneMode := .select
  divider : Nat := 0
  bitOrder : BitOrder := .msbFirst
  /-- Clock polarity: `true` is HIGH. -/
  polarityHigh : Bool := false
  autoResume : Bool := false
  recoveryTime : Nat := 0
  gate : Gate := .closed
  activity : Activity := .idle
  blackoutEnd : Option Epoch := none
  yielding : Bool := false
  recoveryEnd : Option Epoch := none
  integrityCount : Nat := 0
  latched : Bool := false
  quietEnd : Option Epoch := none
  /-- The share lock that the quiet time carries, with the duty whose outcome started it (R64, R65). -/
  quietLock : Option (LockIx × DutyIx) := none
  pins : Pins := {}
  /-- An input: the target holds the clock line low (R134). DESIGN CHOICE (log 9): only CLOCK_LINE_HOLD and
  CLOCK_LINE_RELEASE change it. -/
  lineHeld : Bool := false
  /-- A stop condition waits on a held clock line (R139). -/
  stopWaiting : Bool := false
  deriving DecidableEq, Repr

-- Time base (chapter 7)

/-- The adjustment due at the next tick to begin (Table 7-1). -/
inductive Adjustment where
  | none | remove | insert
  deriving DecidableEq, Repr

/-- The three trim windows: 2^18, 2^20 and 2^22 REFCLK cycles (Table 7-1). -/
inductive TrimWindow where
  | w18 | w20 | w22
  deriving DecidableEq, Repr

/-- The time base (Table 7-1). The default is its state at power-on (R149). -/
structure TimeBase where
  phase : Nat := 0
  tickLength : Nat := 4
  adjustment : Adjustment := .none
  windowInForce : TrimWindow := .w20
  trimInForce : Int := 0
  partLength : Nat := 0
  position : Nat := 0
  writtenWindow : TrimWindow := .w20
  writtenTrim : Int := 0
  epoch : Epoch := 0
  latchMid : Word := 0
  latchHi : Word := 0
  deriving DecidableEq, Repr

-- Incident unit (chapter 8)

/-- The kinds of incident (Table 8-2). -/
inductive IncidentKind where
  | dutyFaulted | integrity | deviation | overdue | holdFailed | stranded | holdExpired
  deriving DecidableEq, Repr

/-- The Reason of an incident (Table 8-1). -/
inductive Reason where
  | noAnswer | timeout | rejected | integrity | busyLimit | abandoned
  deriving DecidableEq, Repr

/-- An incident record (R151, Table 8-1). -/
structure Incident where
  sequence : Word := 0
  kind : IncidentKind
  reason : Option Reason := none
  epoch : Epoch
  lane : LaneIx
  target : TargetIx
  duty : Option DutyIx := none
  attempt : Option Nat := none
  status : Option Byte := none
  data : Option (List Byte) := none
  deriving DecidableEq, Repr

/-- One bit for each cause: the event summary, and the event enable (Table 8-3, R160). -/
structure Causes where
  incident : Bool := false
  overflow : Bool := false
  command : Bool := false
  lane : Bool := false
  hold : Bool := false
  deriving DecidableEq, Repr

/-- The incident unit and the interrupt line (R152, R153, R157 to R160). The default is R161's. -/
structure IncidentUnit where
  queue : List Incident := []
  sequence : Word := 0
  summary : Causes := {}
  enable : Causes := {}
  /-- IRQ is asserted, that is IRQ_N is driven low. -/
  irq : Bool := false
  deriving DecidableEq, Repr

-- Command port (chapter 9)

/-- The State of the command port (R163). -/
inductive PortState where
  | ready | working
  deriving DecidableEq, Repr

/-- The Result of the command port (Table 9-3). -/
inductive CmdResult where
  | none | done | state | field | inUse | duplicate | catchUp | aborted | tooLate | unknown
  deriving DecidableEq, Repr

/-- The kind of the copy in the snapshot window (R176). -/
inductive SnapshotKind where
  | none | duty | target
  deriving DecidableEq, Repr

/-- The snapshot window (R176). -/
structure Snapshot where
  kind : SnapshotKind := .none
  words : Vector Word 16 := Vector.replicate 16 0
  deriving DecidableEq, Repr

/-- The command port (Table 9-1). The default is R163's. -/
structure Port where
  state : PortState := .ready
  result : CmdResult := .none
  collision : Bool := false
  code : Byte := 0
  staging : Vector Word 32 := Vector.replicate 32 0
  latched : Vector Word 32 := Vector.replicate 32 0
  snapshot : Snapshot := {}
  deriving DecidableEq, Repr

/-- The state of the block: Table 0-1's blocks, the word last driven on D15..D0, and the queue of waiting commands. -/
structure State where
  duties : Vector Duty 64
  targets : Vector Target 32
  lanes : Vector Lane 4
  lists : Vector (List DutyIx) 4
  locks : Vector (Option DutyIx) 8
  records : Vector (Option InFlight) 4
  time : TimeBase
  inc : IncidentUnit
  port : Port
  /-- The word the part last drove on D15..D0 at a read of EPOCH_LO (R147; log 10). -/
  busRead : Word
  /-- The model's own: the commands that wait, first in first out (log 2). -/
  pending : List Instr
  deriving DecidableEq, Repr

/-- The block has no fault: no command stops it. A refused command records a result and the part goes on (R166). -/
inductive Fault where
  deriving DecidableEq, Repr

/-- Why a command has no meaning. -/
inductive Refusal where
  /-- Raised by `exec`'s arm of a command that has no meaning yet; no arm does. Safe. -/
  | notModelled (mnemonic : String)
  deriving DecidableEq, Repr

/-- The block after power-on: every duty VACANT (R21), every target UNDEFINED (R112), every lane UNCONFIGURED and CLOSED
(R115), every list empty (R47), every lock FREE (R60), no transaction (R68), the time base of R149, the incident unit of
R161 and the port of R163. -/
def State.reset : State where
  duties := Vector.replicate 64 {}
  targets := Vector.replicate 32 {}
  lanes := Vector.replicate 4 {}
  lists := Vector.replicate 4 []
  locks := Vector.replicate 8 none
  records := Vector.replicate 4 none
  time := {}
  inc := {}
  port := {}
  busRead := 0
  pending := []

end Sys2Proof.Machine
end

