-- ==== Sys2Proof/Machine/Bits.lean ====
section
/-! DEFINITION. Epoch arithmetic, the packing of fields into words, and the index lists of the tables. -/

namespace Sys2Proof.Machine

-- Epoch values

/-- An epoch value plus a span, held at 2^48 - 1 (R69, R77, R91, chapter 6 after Table 6-1, R146; DEDUCED for the quiet
end, log 17). -/
def satAdd (e : Epoch) (span : Nat) : Epoch :=
  if e.toNat + span ≤ Config.epochMax then BitVec.ofNat 48 (e.toNat + span) else BitVec.ofNat 48 Config.epochMax

/-- The setting of a Next boundary: an epoch value plus the Interval, suspended beyond 2^48 - 1 (R27). -/
def boundaryAfter (e : Epoch) (interval : Nat) : Option Epoch :=
  if e.toNat + interval ≤ Config.epochMax then some (BitVec.ofNat 48 (e.toNat + interval)) else none

/-- A deadline is reached when the epoch is equal to or greater than it (00_scope.md section 5, Time). -/
def reached (now deadline : Epoch) : Bool :=
  decide (deadline.toNat ≤ now.toNat)

/-- A deadline is present and reached. -/
def presentAndReached (now : Epoch) : Option Epoch → Bool
  | none => false
  | some d => reached now d

/-- A deadline is absent or reached (R10). -/
def absentOrReached (now : Epoch) : Option Epoch → Bool
  | none => true
  | some d => reached now d

/-- The next value of the epoch at a tick completion (R146). -/
def nextEpoch (e : Epoch) : Epoch :=
  if e.toNat < Config.epochMax then BitVec.ofNat 48 (e.toNat + 1) else e

-- Fields of words

/-- Bits 7..0 of a word. -/
def lowByte (w : Word) : Byte := w.extractLsb' 0 8

/-- Bits 15..8 of a word. -/
def highByte (w : Word) : Byte := w.extractLsb' 8 8

/-- The number in the `width` bits of a word from bit `at` upwards. -/
def fieldOf (w : Word) (start width : Nat) : Nat := w.toNat / 2 ^ start % 2 ^ width

/-- A word whose bit `n` is the flag and whose other bits are 0. -/
def flagBit (b : Bool) (n : Nat) : Word := if b then BitVec.ofNat 16 (2 ^ n) else 0

/-- A word with a number placed from bit `n` upwards. -/
def fieldAt (x n : Nat) : Word := BitVec.ofNat 16 (x * 2 ^ n)

/-- An epoch value of three words, the least significant first (R177). -/
def epochOfWords (w0 w1 w2 : Word) : Epoch :=
  BitVec.ofNat 48 (w0.toNat + 65536 * w1.toNat + 4294967296 * w2.toNat)

/-- Word `k` of an epoch value: bits 15..0, 31..16, 47..32 (R147, R177). -/
def epochWord (e : Epoch) (k : Nat) : Word := e.extractLsb' (16 * k) 16

/-- Word `k` of an optional epoch value; 0 when it is absent (R181). -/
def optEpochWord (e : Option Epoch) (k : Nat) : Word :=
  match e with
  | none => 0
  | some v => epochWord v k

/-- The word that holds bytes 2k and 2k + 1 of a list, the first in its low byte; 0 beyond the list (R177, R182). -/
def byteWord (l : List Byte) (k : Nat) : Word :=
  BitVec.ofNat 16 ((l.getD (2 * k) 0).toNat + 256 * (l.getD (2 * k + 1) 0).toNat)

-- Index lists

def allDuties : List DutyIx := List.finRange 64
def allTargets : List TargetIx := List.finRange 32
def allLanes : List LaneIx := List.finRange 4
def allLocks : List LockIx := List.finRange 8

/-- The lock of a share group 1..8; share group 0 means none (R60). -/
def lockOfGroup (group : Nat) : Option LockIx :=
  if h : 1 ≤ group ∧ group ≤ 8 then some ⟨group - 1, by omega⟩ else none

end Sys2Proof.Machine
end

