-- ==== Sys2Proof/Machine/Operands.lean ====
section
/-! DEFINITION. The operands of the commands: the staging layouts, read from the latched parameters (R180, Table 10-5). -/

namespace Sys2Proof.Machine

/-- Word `i` of the staging area or of the latched parameters. -/
def wordAt (w : Vector Word 32) (i : Nat) : Word := w.toList.getD i 0

/-- Byte `k` of a byte list whose first word is word `i`: byte 0 in the low byte, byte 1 in the high byte (R177). -/
def stagedByte (w : Vector Word 32) (i k : Nat) : Byte :=
  if k % 2 = 0 then lowByte (wordAt w (i + k / 2)) else highByte (wordAt w (i + k / 2))

/-- A byte list of the given length whose first word is word `i`; bytes beyond the length are not read (R180). -/
def stagedBytes (w : Vector Word 32) (i len : Nat) : List Byte :=
  (List.range len).map (stagedByte w i)

/-- An epoch value in words `i`, `i + 1` and `i + 2`, read when its presence bit is set (R180). -/
def stagedEpoch (w : Vector Word 32) (present : Bool) (i : Nat) : Option Epoch :=
  if present then some (epochOfWords (wordAt w i) (wordAt w (i + 1)) (wordAt w (i + 2))) else none

/-- The Index, or the lane number, in bits 7..0 of word 0. -/
def stagedIndex (w : Vector Word 32) : Nat := (lowByte (wordAt w 0)).toNat

/-- The parameters of DEFINE DUTY as read, before any check. -/
structure DutyStaging where
  index : Nat
  target : Nat
  actionCode : Byte
  payloadLength : Nat
  readbackLength : Nat
  compare : Bool
  advancePermitted : Bool
  settleSafe : Bool
  haltOnDeviation : Bool
  interval : Nat
  shareGroup : Nat
  deferLimit : Nat
  advanceLimit : Nat
  retryLimit : Nat
  busyLimit : Nat
  initialOwed : Option Int
  quietTime : Nat
  startTime : Option Epoch
  stopTime : Option Epoch
  deriving DecidableEq, Repr

/-- Words 0 to 25 of DEFINE DUTY (Table 10-5). -/
def dutyStaging (w : Vector Word 32) : DutyStaging where
  index := (lowByte (wordAt w 0)).toNat
  target := (highByte (wordAt w 0)).toNat
  actionCode := lowByte (wordAt w 1)
  payloadLength := (highByte (wordAt w 1)).toNat
  readbackLength := (lowByte (wordAt w 6)).toNat
  compare := (wordAt w 6).getLsbD 8
  advancePermitted := (wordAt w 6).getLsbD 9
  settleSafe := (wordAt w 6).getLsbD 10
  haltOnDeviation := (wordAt w 6).getLsbD 11
  interval := (wordAt w 15).toNat + 65536 * (lowByte (wordAt w 16)).toNat
  shareGroup := (highByte (wordAt w 16)).toNat
  deferLimit := fieldOf (wordAt w 17) 0 4
  advanceLimit := fieldOf (wordAt w 17) 4 4
  retryLimit := fieldOf (wordAt w 17) 8 4
  busyLimit := fieldOf (wordAt w 17) 12 4
  initialOwed := if (wordAt w 6).getLsbD 12 then some (wordAt w 18).toInt else none
  quietTime := (wordAt w 19).toNat
  startTime := stagedEpoch w ((wordAt w 6).getLsbD 13) 20
  stopTime := stagedEpoch w ((wordAt w 6).getLsbD 14) 23

/-- The definition part that a DEFINE DUTY writes (R1, R7); the Expected value and the Mask are read only with Compare set
(R180). -/
def dutyDefOf (w : Vector Word 32) : DutyDef :=
  let x := dutyStaging w
  { target := Fin.ofNat 32 x.target
    actionCode := x.actionCode
    payload := stagedBytes w 2 x.payloadLength
    readbackLength := x.readbackLength
    compare := x.compare
    expected := if x.compare then some (stagedBytes w 7 x.readbackLength) else none
    mask := if x.compare then some (stagedBytes w 11 x.readbackLength) else none
    interval := x.interval
    deferLimit := x.deferLimit
    advanceLimit := x.advanceLimit
    initialOwed := x.initialOwed
    retryLimit := x.retryLimit
    busyLimit := x.busyLimit
    quietTime := x.quietTime
    shareGroup := x.shareGroup
    advancePermitted := x.advancePermitted
    settleSafe := x.settleSafe
    haltOnDeviation := x.haltOnDeviation
    startTime := x.startTime
    stopTime := x.stopTime }

/-- START DUTY's optional Start time (Table 10-5). -/
def stagedStartTime (w : Vector Word 32) : Option Epoch := stagedEpoch w ((wordAt w 1).getLsbD 0) 2

/-- SET OWED's value (Table 10-5). -/
def stagedOwed (w : Vector Word 32) : Int := (wordAt w 1).toInt

/-- SNAPSHOT DUTY's Clear option (Table 10-5). -/
def stagedClear (w : Vector Word 32) : Bool := (wordAt w 1).getLsbD 0

/-- The parameters of DEFINE TARGET as read, before any check. -/
structure TargetStaging where
  index : Nat
  lane : Nat
  address : Byte
  holdRetryLimit : Nat
  responseTimeout : Nat
  busyBackoff : Nat
  entryCode : Byte
  entryLength : Nat
  exitCode : Byte
  exitLength : Nat
  minimumHold : Nat
  maximumHold : Nat
  settleTime : Nat
  deriving DecidableEq, Repr

/-- Words 0 to 11 of DEFINE TARGET (Table 10-5). -/
def targetStaging (w : Vector Word 32) : TargetStaging where
  index := (lowByte (wordAt w 0)).toNat
  lane := (highByte (wordAt w 0)).toNat
  address := lowByte (wordAt w 1)
  holdRetryLimit := (highByte (wordAt w 1)).toNat
  responseTimeout := (lowByte (wordAt w 2)).toNat
  busyBackoff := (highByte (wordAt w 2)).toNat
  entryCode := lowByte (wordAt w 3)
  entryLength := (highByte (wordAt w 3)).toNat
  exitCode := lowByte (wordAt w 6)
  exitLength := (highByte (wordAt w 6)).toNat
  minimumHold := (wordAt w 9).toNat
  maximumHold := (wordAt w 10).toNat
  settleTime := (wordAt w 11).toNat

/-- The definition part that a DEFINE TARGET writes (R90, R94). -/
def targetDefOf (w : Vector Word 32) : TargetDef :=
  let x := targetStaging w
  { lane := Fin.ofNat 4 x.lane
    address := x.address
    responseTimeout := x.responseTimeout
    busyBackoff := x.busyBackoff
    entryCode := x.entryCode
    entryPayload := stagedBytes w 4 x.entryLength
    exitCode := x.exitCode
    exitPayload := stagedBytes w 7 x.exitLength
    minimumHold := x.minimumHold
    maximumHold := x.maximumHold
    settleTime := x.settleTime
    holdRetryLimit := x.holdRetryLimit }

/-- The parameters of CONFIGURE LANE (Table 10-5). -/
structure LaneStaging where
  lane : Nat
  mode : LaneMode
  bitOrder : BitOrder
  polarityHigh : Bool
  autoResume : Bool
  divider : Nat
  recoveryTime : Nat
  deriving DecidableEq, Repr

def laneStaging (w : Vector Word 32) : LaneStaging where
  lane := (lowByte (wordAt w 0)).toNat
  mode := if (wordAt w 1).getLsbD 0 then .addressed else .select
  bitOrder := if (wordAt w 1).getLsbD 1 then .lsbFirst else .msbFirst
  polarityHigh := (wordAt w 1).getLsbD 2
  autoResume := (wordAt w 1).getLsbD 3
  divider := (lowByte (wordAt w 2)).toNat
  recoveryTime := (highByte (wordAt w 2)).toNat

/-- BLACKOUT LANE's length and Yield flag (Table 10-5). -/
def stagedLength (w : Vector Word 32) : Nat := (wordAt w 1).toNat
def stagedYield (w : Vector Word 32) : Bool := (wordAt w 2).getLsbD 0

end Sys2Proof.Machine
end

