-- ==== Sys2Proof/Machine/Frames.lean ====
section
/-! DEFINITION. The check byte, and the frames a lane sends and reads: their bytes, their symbols on the link, the pin levels
of a symbol, and the bit time (06 R131 to R138, 10 section 10.6). -/

namespace Sys2Proof.Machine

/-- One of the eight shifts by which a byte is taken into the check register (R137). -/
def crcShift (r : Byte) : Byte :=
  if r.getLsbD 7 then (r <<< 1) ^^^ 0x07 else r <<< 1

/-- A byte is taken into the check register, its most significant bit first (R137). -/
def crcByte (r b : Byte) : Byte :=
  crcShift (crcShift (crcShift (crcShift (crcShift (crcShift (crcShift (crcShift (r ^^^ b))))))))

/-- The check byte over the bytes covered, from the starting value 0xFF (R137). -/
def checkOf (bytes : List Byte) : Byte :=
  bytes.foldl crcByte 0xFF

/-- The bytes of a request frame: the action code, the payload and the request check byte (R137, section 10.6). -/
def requestBytes (code : Byte) (payload : List Byte) : List Byte :=
  let covered := code :: payload
  covered ++ [checkOf covered]

/-- The response check byte that the part expects, over the final status byte and the data bytes (R137). -/
def responseCheck (status : Byte) (data : List Byte) : Byte :=
  checkOf (status :: data)

/-- A bit time in SYSCLK cycles (R131). -/
def bitTimeCycles (divider : Nat) : Nat := 2 * (divider + 1)

/-- The bits of a byte in the order they go on the link (R132, R134). -/
def wireBits (order : BitOrder) (b : Byte) : List Bool :=
  let msb := [b.getLsbD 7, b.getLsbD 6, b.getLsbD 5, b.getLsbD 4, b.getLsbD 3, b.getLsbD 2, b.getLsbD 1, b.getLsbD 0]
  match order with
  | .msbFirst => msb
  | .lsbFirst => msb.reverse

/-- The byte whose bits come from the link in this order: its most significant bit is the first one sampled, or the last (R132,
R134). -/
def byteOfWire (order : BitOrder) (bits : List Bool) : Byte :=
  let msb := match order with
    | .msbFirst => bits
    | .lsbFirst => bits.reverse
  msb.foldl (fun acc b => (acc <<< 1) ||| if b then 1 else 0) 0

/-- What the part does on a link, in bit times: the select line, a start, repeated start or stop condition, a bit it sends, an
idle bit time, the ninth bit time in which the target acknowledges, a bit time in which it samples a bit of the target, and the
ninth bit time in which it acknowledges a byte of the target or leaves it unacknowledged (R132, R134). -/
inductive Symbol where
  | selectLow (line : Nat) | selectHigh (line : Nat)
  | start | repeatedStart | stop | bit (b : Bool) | idleBit | ackSlot | sample | ack | nack
  deriving DecidableEq, Repr

/-- A byte as an ADDRESSED lane sends it, with its acknowledge bit (R134). -/
def addressedByte (b : Byte) : List Symbol :=
  (wireBits .msbFirst b).map .bit ++ [.ackSlot]

/-- The address byte of an ADDRESSED lane: the 7-bit Address and the direction bit, 0 for a write and 1 for a read (R134). -/
def addressByte (address : Byte) (read : Bool) : Byte :=
  (address <<< 1) ||| (if read then 1 else 0)

/-- The request as a SELECT lane sends it: the select line asserted, one bit time with the clock idle, and the bytes without a
gap (R132). -/
def selectRequest (order : BitOrder) (address : Byte) (bytes : List Byte) : List Symbol :=
  [.selectLow address.toNat, .idleBit] ++ bytes.flatMap fun b => (wireBits order b).map .bit

/-- The write phase of an ADDRESSED lane whose bytes are all acknowledged (R135). -/
def addressedRequest (address : Byte) (bytes : List Byte) : List Symbol :=
  [.start] ++ addressedByte (addressByte address false) ++ bytes.flatMap addressedByte

/-- A byte that the part reads: eight samples, and on an ADDRESSED lane its own acknowledge bit (R133, R134, R136). -/
def readByte (mode : LaneMode) (acknowledged : Bool) : List Symbol :=
  List.replicate 8 .sample ++
    match mode with
    | .select => []
    | .addressed => [if acknowledged then .ack else .nack]

/-- How a read phase begins: a repeated start after the request, a start after a PENDING, and the address byte with direction
read (R136). -/
def readPhase (repeated : Bool) (address : Byte) : List Symbol :=
  (if repeated then .repeatedStart else .start) :: addressedByte (addressByte address true)

/-- The end of a frame, with the bit time, at the least, that the lane keeps before its next frame: the select line
deasserted, or a stop condition (R133, R136, R139). -/
def frameEnd (mode : LaneMode) (address : Byte) : List Symbol :=
  match mode with
  | .select => [.selectHigh address.toNat, .idleBit]
  | .addressed => [.stop, .idleBit]

-- Pin levels

/-- How a line of an open-drain pair is driven: a 0 pulls it low, a 1 releases it (R134). -/
def openDrain (b : Bool) : Level := if b then .released else .low

/-- LnCLK and LnDO of an ADDRESSED lane in the steps of a symbol, in order. Data changes while the clock line is low and is
sampled while it is high. A start is a fall of the data line while the clock line is high, a stop is a rise (R134). A stop
releases the data line, pulls it low while the clock line is low, and releases the clock line and the data line in turn
(R139). -/
def Symbol.addressedLevels : Symbol → List (Level × Level)
  | .start => [(.released, .released), (.released, .low), (.low, .low)]
  | .repeatedStart => [(.low, .released), (.released, .released), (.released, .low), (.low, .low)]
  | .stop => [(.low, .released), (.low, .low), (.released, .low), (.released, .released)]
  | .bit b => [(.low, openDrain b), (.released, openDrain b)]
  | .ack => [(.low, .low), (.released, .low)]
  | .nack => [(.low, .released), (.released, .released)]
  | .ackSlot => [(.low, .released), (.released, .released)]
  | .sample => [(.low, .released), (.released, .released)]
  | .idleBit => [(.released, .released)]
  | .selectLow _ => []
  | .selectHigh _ => []

/-- LnCLK and LnDO of a SELECT lane in the halves of a symbol's bit time, in order: the data changes where the clock goes from
its active to its idle level, and LnDI is sampled where it goes from idle to active. While the part reads, LnDO is high
(R131, R132). -/
def Symbol.selectLevels (idle active : Level) : Symbol → List (Level × Level)
  | .bit b => [(idle, if b then .high else .low), (active, if b then .high else .low)]
  | .sample => [(idle, .high), (active, .high)]
  | .idleBit => [(idle, .high)]
  | .selectLow _ => []
  | .selectHigh _ => []
  | .start => []
  | .repeatedStart => []
  | .stop => []
  | .ackSlot => []
  | .ack => []
  | .nack => []

end Sys2Proof.Machine
end

