-- ==== Sys2Proof/Machine/Flags.lean ====
section
/-! DEFINITION. The incident unit: the queue and its numbering, the five causes of the event summary, the enables and the IRQ
line (chapter 8). -/

namespace Sys2Proof.Machine

/-- Some cause is both set and enabled (R160). -/
def anyEnabled (summary enable : Causes) : Bool :=
  summary.incident && enable.incident || summary.overflow && enable.overflow || summary.command && enable.command ||
    summary.lane && enable.lane || summary.hold && enable.hold

/-- The INCIDENT cause follows the queue (R157), and IRQ the summary and the enables (R160). -/
def IncidentUnit.follow (u : IncidentUnit) : IncidentUnit :=
  let summary := { u.summary with incident := !u.queue.isEmpty }
  { u with summary := summary, irq := anyEnabled summary u.enable }

/-- An incident passed to the unit takes the next Sequence (R152); it is stored at the tail, or dropped with OVERFLOW set when
the queue holds 16 records (R153). -/
def IncidentUnit.pass (u : IncidentUnit) (i : Incident) : IncidentUnit :=
  let stored := decide (u.queue.length < Config.queueCapacity)
  IncidentUnit.follow
    { u with
      queue := if stored then u.queue ++ [{ i with sequence := u.sequence }] else u.queue
      sequence := u.sequence + 1
      summary := if stored then u.summary else { u.summary with overflow := true } }

/-- INCIDENT_POP removes the head record; on an empty queue it is ignored (R156). -/
def IncidentUnit.pop (u : IncidentUnit) : IncidentUnit :=
  IncidentUnit.follow { u with queue := u.queue.tail }

/-- The COMMAND cause is set (R159). -/
def IncidentUnit.setCommand (u : IncidentUnit) : IncidentUnit :=
  IncidentUnit.follow { u with summary := { u.summary with command := true } }

/-- The LANE cause is set (R124, R126, R128). -/
def IncidentUnit.setLane (u : IncidentUnit) : IncidentUnit :=
  IncidentUnit.follow { u with summary := { u.summary with lane := true } }

/-- The HOLD cause is set (R110). -/
def IncidentUnit.setHold (u : IncidentUnit) : IncidentUnit :=
  IncidentUnit.follow { u with summary := { u.summary with hold := true } }

/-- A write to EVENT_SUMMARY clears each sticky cause whose bit is 1; a 1 in bit 0 is ignored (R157, R158, R179). -/
def IncidentUnit.writeSummary (u : IncidentUnit) (w : Word) : IncidentUnit :=
  IncidentUnit.follow
    { u with
      summary :=
        { u.summary with
          overflow := u.summary.overflow && !w.getLsbD 1
          command := u.summary.command && !w.getLsbD 2
          lane := u.summary.lane && !w.getLsbD 3
          hold := u.summary.hold && !w.getLsbD 4 } }

/-- The five causes or enables in bits 4..0 of a word (Table 10-4). -/
def Causes.ofWord (w : Word) : Causes where
  incident := w.getLsbD 0
  overflow := w.getLsbD 1
  command := w.getLsbD 2
  lane := w.getLsbD 3
  hold := w.getLsbD 4

/-- The word that shows five causes or enables (Table 10-4). -/
def Causes.toWord (c : Causes) : Word :=
  flagBit c.incident 0 ||| flagBit c.overflow 1 ||| flagBit c.command 2 ||| flagBit c.lane 3 ||| flagBit c.hold 4

/-- A write to EVENT_ENABLE sets all five enables (R160, R179). -/
def IncidentUnit.writeEnable (u : IncidentUnit) (w : Word) : IncidentUnit :=
  IncidentUnit.follow { u with enable := Causes.ofWord w }

/-- SCHEDULER RESET empties the queue, sets the sequence counter to 0 and clears OVERFLOW, LANE and HOLD; COMMAND and the
enables are kept (R162, steps 1 and 2). -/
def IncidentUnit.schedulerReset (u : IncidentUnit) : IncidentUnit :=
  IncidentUnit.follow
    { u with
      queue := []
      sequence := 0
      summary := { u.summary with overflow := false, lane := false, hold := false } }

end Sys2Proof.Machine
end

