-- ==== Sys2Proof/Machine/TimeBase.lean ====
section
/-! DEFINITION. The time base: REFCLK cycles, ticks, trim windows and the epoch (chapter 7). -/

namespace Sys2Proof.Machine

/-- The length of a trim window in REFCLK cycles (Table 7-1). -/
def TrimWindow.cycles : TrimWindow → Nat
  | .w18 => 262144
  | .w20 => 1048576
  | .w22 => 4194304

/-- The code of a trim window in TRIM_WINDOW (R179). -/
def TrimWindow.code : TrimWindow → Word
  | .w18 => 0
  | .w20 => 1
  | .w22 => 2

/-- The REFCLK cycle to come is the last cycle of a part: window position k * P - 1 for a k in 1..|T| (R144). DEDUCED (log 5):
a cycle has the position at which it begins. -/
def TimeBase.endsPart (t : TimeBase) : Bool :=
  decide (t.trimInForce ≠ 0 ∧ t.partLength ≠ 0 ∧ (t.position + 1) % t.partLength = 0 ∧
    (t.position + 1) / t.partLength ≤ t.trimInForce.natAbs)

/-- The REFCLK cycle to come completes the tick in progress (R142). -/
def TimeBase.completesTick (t : TimeBase) : Bool :=
  decide (t.tickLength ≤ t.phase + 1)

/-- The REFCLK cycle to come starts a trim window (R143). -/
def TimeBase.startsWindow (t : TimeBase) : Bool :=
  decide (t.windowInForce.cycles ≤ t.position + 1)

/-- At the last cycle of a part the adjustment due becomes REMOVE or INSERT (R144). -/
def TimeBase.endPart (t : TimeBase) : TimeBase :=
  { t with adjustment := if 0 < t.trimInForce then .remove else .insert }

/-- The length of the tick that begins with this adjustment due (R142). -/
def Adjustment.tickLength : Adjustment → Nat
  | .remove => 3
  | .insert => 5
  | .none => 4

/-- A tick completes: the epoch rises, the divider phase becomes 0, and the next tick begins with the adjustment due (R142,
R146). -/
def TimeBase.completeTick (t : TimeBase) : TimeBase :=
  { t with epoch := nextEpoch t.epoch, phase := 0, tickLength := t.adjustment.tickLength, adjustment := .none }

/-- The length of each part of a window (R143). -/
def partLengthOf (w : TrimWindow) (trim : Int) : Nat :=
  if trim = 0 then 0 else w.cycles / trim.natAbs

/-- A trim window starts: the written settings come into force (R143). -/
def TimeBase.startWindow (t : TimeBase) : TimeBase :=
  { t with
    position := 0
    windowInForce := t.writtenWindow
    trimInForce := t.writtenTrim
    partLength := partLengthOf t.writtenWindow t.writtenTrim }

/-- One REFCLK cycle (R142 to R144): the end of a part is taken before the completion of a tick at the same cycle (R144). -/
def TimeBase.cycle (t : TimeBase) : TimeBase :=
  let t1 := if t.endsPart then t.endPart else t
  let t2 := if t.completesTick then t1.completeTick else { t1 with phase := t1.phase + 1 }
  if t.startsWindow then t2.startWindow else { t2 with position := t2.position + 1 }

/-- A value written to TRIM_VALUE, held in -1024..+1023 (R145). -/
def clampTrim (v : Int) : Int :=
  if 1023 < v then 1023 else if v < -1024 then -1024 else v

/-- A write to TRIM_VALUE (R145). -/
def TimeBase.writeTrim (t : TimeBase) (w : Word) : TimeBase :=
  { t with writtenTrim := clampTrim w.toInt }

/-- The window that bits 1..0 of a write to TRIM_WINDOW name (R179). -/
def windowOfWord (w : Word) : Option TrimWindow :=
  match fieldOf w 0 2 with
  | 0 => some .w18
  | 1 => some .w20
  | 2 => some .w22
  | _ => none

/-- A write to TRIM_WINDOW; one that names no window leaves the written window as it was (R145, R179). -/
def TimeBase.writeWindow (t : TimeBase) (w : Word) : TimeBase :=
  match windowOfWord w with
  | some v => { t with writtenWindow := v }
  | none => t

/-- A read of EPOCH_LO copies the middle and high parts of the epoch into the latch (R147). -/
def TimeBase.latchEpoch (t : TimeBase) : TimeBase :=
  { t with latchMid := epochWord t.epoch 1, latchHi := epochWord t.epoch 2 }

end Sys2Proof.Machine
end

