-- ==== Sys2Proof/Machine/Ops.lean ====
section
/-! DEFINITION. Reading and writing the records of the tables, and the operations that several commands share: tickets, share
locks, Next boundaries, incidents, the pressed report, the stop, the fault and the vacating of a duty, and results. -/

namespace Sys2Proof.Machine

-- One home for every record

def State.duty (s : State) (d : DutyIx) : Duty := s.duties[d.val]
def State.target (s : State) (t : TargetIx) : Target := s.targets[t.val]
def State.lane (s : State) (l : LaneIx) : Lane := s.lanes[l.val]
def State.list (s : State) (l : LaneIx) : List DutyIx := s.lists[l.val]
def State.lock (s : State) (g : LockIx) : Option DutyIx := s.locks[g.val]
def State.record (s : State) (l : LaneIx) : Option InFlight := s.records[l.val]

def State.setDuty (s : State) (d : DutyIx) (x : Duty) : State := { s with duties := s.duties.set d.val x d.isLt }
def State.setTarget (s : State) (t : TargetIx) (x : Target) : State := { s with targets := s.targets.set t.val x t.isLt }
def State.setLane (s : State) (l : LaneIx) (x : Lane) : State := { s with lanes := s.lanes.set l.val x l.isLt }
def State.setList (s : State) (l : LaneIx) (x : List DutyIx) : State := { s with lists := s.lists.set l.val x l.isLt }
def State.setLock (s : State) (g : LockIx) (x : Option DutyIx) : State := { s with locks := s.locks.set g.val x g.isLt }
def State.setRecord (s : State) (l : LaneIx) (x : Option InFlight) : State := { s with records := s.records.set l.val x l.isLt }

/-- "Now" is the epoch at the moment the event is taken (R146). -/
def State.now (s : State) : Epoch := s.time.epoch

/-- The target a duty serves. -/
def State.targetOf (s : State) (d : DutyIx) : Target := s.target (s.duty d).defn.target

/-- The lane of a duty is its target's Lane (Table 1-1). -/
def State.laneOf (s : State) (d : DutyIx) : LaneIx := (s.targetOf d).defn.lane

/-- The share lock that a duty must hold while it runs (R60). -/
def State.lockOf (s : State) (d : DutyIx) : Option LockIx := lockOfGroup (s.duty d).defn.shareGroup

/-- The accruing hold states: ACTIVE, ENTERING and SETTLING (R4, R25). -/
def HoldState.accruing : HoldState → Bool
  | .active => true
  | .entering => true
  | .settling => true
  | .undefined => false
  | .held => false
  | .leaving => false
  | .stranded => false

/-- A duty accrues while it is RUNNING and its target is in an accruing hold state (R25). -/
def State.accrues (s : State) (d : DutyIx) : Bool :=
  (s.duty d).state = .running && (s.targetOf d).holdState.accruing

/-- Owed equals the Defer limit plus one (R32). -/
def Duty.atLimit (x : Duty) : Bool := x.owed = x.defn.deferLimit + 1

/-- A duty wants issue while Owed is 1 or more, or Catch-up pending or Forced pending is set (R42). -/
def Duty.wantsIssue (x : Duty) : Bool := decide (1 ≤ x.owed) || x.catchUp || x.forced

/-- A duty that is not VACANT names the target (R93, R95). -/
def State.names (s : State) (t : TargetIx) (d : DutyIx) : Bool :=
  (s.duty d).state ≠ .vacant && (s.duty d).defn.target = t

-- Incidents and causes

def State.passIncident (s : State) (i : Incident) : State := { s with inc := s.inc.pass i }
def State.setLaneCause (s : State) : State := { s with inc := s.inc.setLane }
def State.setHoldCause (s : State) : State := { s with inc := s.inc.setHold }

-- Tickets (R42, R45, R46)

/-- A ticket naming the duty is appended at the tail of its lane's due list, and Ticket present is set (R45). -/
def State.placeTicket (s : State) (d : DutyIx) : State :=
  let l := s.laneOf d
  (s.setList l (s.list l ++ [d])).setDuty d { s.duty d with ticket := true }

/-- An offer places a ticket when the duty is RUNNING, wants issue, has no ticket and has nothing in flight (R42). -/
def Duty.getsTicket (x : Duty) : Bool := x.state = .running && x.wantsIssue && !x.ticket && !x.inFlight

/-- A duty record after an offer (R42). -/
def Duty.offered (x : Duty) : Duty := { x with ticket := x.ticket || x.getsTicket }

/-- An event offers the duty a ticket (R42). -/
def State.offerTicket (s : State) (d : DutyIx) : State := if (s.duty d).getsTicket then s.placeTicket d else s

/-- The duty's ticket, if it has one, is removed; those behind it close up (R46). -/
def State.removeTicket (s : State) (d : DutyIx) : State :=
  let l := s.laneOf d
  (s.setList l ((s.list l).filter fun e => e ≠ d)).setDuty d { s.duty d with ticket := false }

-- Share locks (R60, R62)

/-- The lock becomes FREE if the duty holds it. -/
def State.releaseLock (s : State) (g : LockIx) (d : DutyIx) : State :=
  if s.lock g = some d then s.setLock g none else s

/-- The duty holds its share lock. -/
def State.holdsLock (s : State) (d : DutyIx) : Bool :=
  match s.lockOf d with
  | none => false
  | some g => s.lock g = some d

/-- The lock a duty holds, if any, is released. -/
def State.releaseLockOf (s : State) (d : DutyIx) : State :=
  match s.lockOf d with
  | none => s
  | some g => s.releaseLock g d

-- The pressed report (R32, R124)

/-- A pressed report that finds the lane in BLACKOUT with Yield set makes the gate OPEN and sets the LANE cause; in any other
case it has no effect (R124). -/
def State.pressedReport (s : State) (l : LaneIx) : State :=
  let x := s.lane l
  if x.gate = .blackout && x.yielding then
    (s.setLane l { x with gate := .opened, blackoutEnd := none, yielding := false }).setLaneCause
  else s

/-- An event that may have made the duty pressed: an accruing duty with Owed D+1 reports to its lane (R32). -/
def State.reportIfPressed (s : State) (d : DutyIx) : State :=
  if s.accrues d && (s.duty d).atLimit then s.pressedReport (s.laneOf d) else s

-- Changes of a duty's state

/-- A duty becomes RUNNING with a fresh Next boundary, is offered a ticket, and reports if it is pressed (R9, R10, R32). -/
def State.startRunning (s : State) (d : DutyIx) : State :=
  let x := s.duty d
  ((s.setDuty d { x with state := .running, nextBoundary := boundaryAfter s.now x.defn.interval }).offerTicket d).reportIfPressed d

/-- The effects of STOP DUTY (R11). -/
def State.stopDuty (s : State) (d : DutyIx) : State :=
  let s1 := s.removeTicket d
  s1.setDuty d { s1.duty d with state := .stopped, catchUp := false, forced := false, nextBoundary := none }

/-- A RUNNING duty becomes FAULTED (R17). -/
def State.faultDuty (s : State) (d : DutyIx) : State :=
  let s1 := s.removeTicket d
  s1.setDuty d { s1.duty d with state := .faulted, catchUp := false, forced := false, nextBoundary := none, inFlight := false }

/-- The quiet time of the duty's lane carries the duty's lock no longer: vacating released it (R14, R64; log 13). -/
def State.dropCarriedLock (s : State) (d : DutyIx) : State :=
  let l := s.laneOf d
  let x := s.lane l
  match x.quietLock with
  | none => s
  | some (_, e) => if e = d then s.setLane l { x with quietLock := none } else s

/-- A duty becomes VACANT: its ticket is removed, its share lock released at once, and its record is R14's. -/
def State.vacateDuty (s : State) (d : DutyIx) : State :=
  (((s.removeTicket d).dropCarriedLock d).releaseLockOf d).setDuty d {}

-- Pins and the end of frames

/-- The idle levels of a lane's pins: those of its Mode, or released when it is UNCONFIGURED (R140). -/
def Lane.idlePins (x : Lane) : Pins :=
  if x.configured then
    match x.mode with
    | .select => { clk := if x.polarityHigh then .high else .low, dout := .high, sel := 0xFF, pullUp := true }
    | .addressed => { clk := .released, dout := .released, sel := 0xFF, pullUp := false }
  else { clk := .released, dout := .released, sel := 0xFF, pullUp := false }

/-- The lane is ADDRESSED and its target holds the clock line low (R71, R134). -/
def Lane.clockHeld (x : Lane) : Bool := x.configured && x.mode = .addressed && x.lineHeld

/-- The pins while a frame is on the link: on a SELECT lane the select line of the Address is asserted, low (R132). On an
ADDRESSED lane both lines are shown between bits, released (log 12). -/
def Lane.framePins (x : Lane) (address : Byte) : Pins :=
  match x.mode with
  | .select => { x.idlePins with sel := 0xFF ^^^ BitVec.ofNat 8 (2 ^ address.toNat) }
  | .addressed => x.idlePins

/-- A frame ends: the select line is deasserted, or a stop condition is formed; with the clock line held low the stop waits,
with the clock released and the data line pulled low (R133, R136, R139). DEDUCED (log 20): in WAIT between two read phases too. -/
def Lane.endFrame (x : Lane) : Lane :=
  if x.clockHeld then { x with pins := { x.idlePins with dout := .low }, stopWaiting := true }
  else { x with pins := x.idlePins, stopWaiting := false }

-- Results of commands (R166)

/-- A command's result is recorded: Result, State READY, and the COMMAND cause (R166, R159). -/
def State.recordResult (s : State) (r : CmdResult) : State :=
  { s with port := { s.port with result := r, state := .ready }, inc := s.inc.setCommand }

/-- What an owner answers to a command passed to it. A refused command changes nothing (R5, R92, R116). -/
inductive Answer where
  | done (s : State)
  | refused (r : CmdResult)
  /-- RETIRE DUTY of a duty with a transaction in flight: no result yet (R167). -/
  | waits (s : State)
  deriving DecidableEq, Repr

/-- The checks of a command in the order its rule gives: the first that fails gives the result (R5, R92, R116). -/
def firstFailure : List (Bool × CmdResult) → Option CmdResult
  | [] => none
  | (fails, r) :: rest => if fails then some r else firstFailure rest

/-- A command that passes every check acts as `body` says; the first failure refuses it. -/
def Answer.checked (checks : List (Bool × CmdResult)) (body : Answer) : Answer :=
  match firstFailure checks with
  | some r => .refused r
  | none => body

end Sys2Proof.Machine
end

