-- ==== Sys2Proof/Machine/Looks.lean ====
section
/-! DEFINITION. The dispatcher: classes, eligibility, the choice of a look, the issue, and the rounds in which the looks of one
event claim share locks (chapter 3). -/

namespace Sys2Proof.Machine

/-- A lane may issue when its gate is OPEN and its activity is IDLE (R53). -/
def State.mayIssue (s : State) (l : LaneIx) : Bool :=
  (s.lane l).gate = .opened && (s.lane l).activity = .idle

/-- Eligible by its target: ACTIVE, or SETTLING for a Settle-safe duty (R49). -/
def State.eligibleByTarget (s : State) (d : DutyIx) : Bool :=
  (s.targetOf d).holdState = .active || (s.targetOf d).holdState = .settling && (s.duty d).defn.settleSafe

/-- Eligible by its backoff (R50). -/
def State.eligibleByBackoff (s : State) (d : DutyIx) : Bool :=
  absentOrReached s.now (s.duty d).backoffUntil

/-- The lock that the duty needs is FREE, or it needs none (R51); the claim itself is made in `lookRounds`. -/
def State.lockFree (s : State) (d : DutyIx) : Bool :=
  match s.lockOf d with
  | none => true
  | some g => s.lock g = none

/-- Eligible by its target, its backoff and its lock (R49 to R51). -/
def State.eligible (s : State) (d : DutyIx) : Bool :=
  s.eligibleByTarget d && s.eligibleByBackoff d && s.lockFree d

/-- What a look may issue: the exit or the entry of a target, or a duty. -/
inductive Candidate where
  | exit (t : TargetIx) | entry (t : TargetIx) | duty (d : DutyIx)
  deriving DecidableEq, Repr

/-- Step 1: the exit is pending, and the minimum hold end has been reached or is regarded as met (R54). -/
def State.exitReady (s : State) (l : LaneIx) (t : TargetIx) : Bool :=
  let x := s.target t
  x.defn.lane = l && x.holdState = .leaving && x.holdTransaction = .exitPending &&
    (x.deadlineKind ≠ .minimum || absentOrReached s.now x.deadline)

/-- No duty of the target has a transaction in flight. -/
def State.noneInFlight (s : State) (t : TargetIx) : Bool :=
  allDuties.all fun d => !(s.names t d && (s.duty d).inFlight)

/-- Step 2: the entry is pending and none of the target's duties has a transaction in flight (R54). -/
def State.entryReady (s : State) (l : LaneIx) (t : TargetIx) : Bool :=
  let x := s.target t
  x.defn.lane = l && x.holdState = .entering && x.holdTransaction = .entryPending && s.noneInFlight t

/-- Step 3: a ticket of class PRESSED that is eligible (R48, R55). -/
def State.pressedTicket (s : State) (d : DutyIx) : Bool := (s.duty d).atLimit && s.eligible d

/-- Step 4: a ticket of class DUE that is eligible (R48, R55). -/
def State.dueTicket (s : State) (d : DutyIx) : Bool := !(s.duty d).atLimit && s.eligible d

/-- Step 5: an advance candidate of the lane (R56). -/
def State.advanceCandidate (s : State) (l : LaneIx) (d : DutyIx) : Bool :=
  let x := s.duty d
  x.state = .running && s.laneOf d = l && x.defn.advancePermitted &&
    decide (-(x.defn.advanceLimit : Int) + 1 ≤ x.owed ∧ x.owed ≤ 0) && !x.ticket && !x.inFlight && s.eligible d

/-- Among the advance candidates the greatest Owed goes first, and among equal Owed the lowest Index (R56). -/
def State.bestAdvance (s : State) (l : LaneIx) : Option DutyIx :=
  allDuties.foldl (init := none) fun best d =>
    if s.advanceCandidate l d then
      match best with
      | none => some d
      | some b => if (s.duty b).owed < (s.duty d).owed then some d else some b
    else best

/-- The first candidate of a look at the lane, with the locks as they stand: R54, R55 and R56 in that order. -/
def State.choose (s : State) (l : LaneIx) : Option Candidate :=
  match allTargets.find? (s.exitReady l) with
  | some t => some (.exit t)
  | none =>
    match allTargets.find? (s.entryReady l) with
    | some t => some (.entry t)
    | none =>
      match (s.list l).find? s.pressedTicket with
      | some d => some (.duty d)
      | none =>
        match (s.list l).find? s.dueTicket with
        | some d => some (.duty d)
        | none => (s.bestAdvance l).map .duty

/-- The record of a transaction issued now (R69). -/
def State.newRecord (s : State) (kind : TxnKind) (t : TargetIx) (attempt : Nat) (forcedMark : Bool) : InFlight where
  kind := kind
  target := t
  attempt := attempt
  forcedMark := forcedMark
  issueEpoch := s.now
  deadline := satAdd s.now (s.target t).defn.responseTimeout

/-- The lane becomes BUSY and starts the request frame to the target (R58, R132). -/
def State.beginFrame (s : State) (l : LaneIx) (t : TargetIx) : State :=
  let x := s.lane l
  s.setLane l { x with activity := .busy, pins := if x.stopWaiting then x.pins else x.framePins (s.target t).defn.address }

/-- A claimed share lock is HELD by the duty from its issue (R58, R60). -/
def State.takeLockOf (s : State) (d : DutyIx) : State :=
  match s.lockOf d with
  | none => s
  | some g => s.setLock g (some d)

/-- The issue of a duty (R58, R69). -/
def State.issueDuty (s : State) (l : LaneIx) (d : DutyIx) : State :=
  let x := s.duty d
  let r := s.newRecord (.duty d) x.defn.target (x.attempts + 1) x.forced
  let s1 := s.removeTicket d
  ((s1.setDuty d { s1.duty d with inFlight := true }).takeLockOf d).setRecord l (some r) |>.beginFrame l x.defn.target

/-- The issue of a hold transaction (R58, R69, R98). -/
def State.issueHold (s : State) (l : LaneIx) (t : TargetIx) (kind : TxnKind) (txn : HoldTransaction) : State :=
  let x := s.target t
  let r := s.newRecord kind t (x.holdAttempts + 1) false
  ((s.setTarget t { x with holdTransaction := txn }).setRecord l (some r)).beginFrame l t

/-- The issue of a candidate on a lane (R58). -/
def State.issue (s : State) (l : LaneIx) : Candidate → State
  | .exit t => s.issueHold l t .holdExit .exitInFlight
  | .entry t => s.issueHold l t .holdEntry .entryInFlight
  | .duty d => s.issueDuty l d

/-- The share lock that the issue of a candidate claims (R57); hold transactions claim none (R54). -/
def State.claimOf (s : State) : Candidate → Option LockIx
  | .exit _ => none
  | .entry _ => none
  | .duty d => s.lockOf d

/-- A claim that comes before the unit together with a claim of a lower-numbered lane on the same lock is refused (R61). -/
def State.claimRefused (s : State) (claims : List (LaneIx × Candidate)) (l : LaneIx) (c : Candidate) : Bool :=
  match s.claimOf c with
  | none => false
  | some g => claims.any fun p => p.1 < l && s.claimOf p.2 = some g

/-- The looks of one event, in rounds. In a round each lane still looking reaches its first candidate whose lock is FREE and
claims it; those granted are issued, and those refused make their next claim in the next round, after these grants (R57, R61).
Every round with a claim grants one, so four rounds are enough for four lanes. DEDUCED (log 14). -/
def lookRounds : Nat → List LaneIx → State → State
  | 0, _, s => s
  | n + 1, ls, s =>
    let claims := ls.filterMap fun l => (s.choose l).map fun c => (l, c)
    let granted := claims.filter fun p => !s.claimRefused claims p.1 p.2
    let refused := claims.filter fun p => s.claimRefused claims p.1 p.2
    lookRounds n (refused.map (·.1)) (granted.foldl (fun acc p => acc.issue p.1 p.2) s)

/-- The looks that one event prompts at the given lanes; a lane that may not issue is not looked at (R53). -/
def State.looks (s : State) (ls : List LaneIx) : State :=
  lookRounds 4 (ls.filter s.mayIssue) s

/-- Some share lock was released between two states (R62). -/
def lockReleased (before after : State) : Bool :=
  allLocks.any fun g => (before.lock g).isSome && (after.lock g).isNone

/-- The looks that follow an event: at the lanes the event itself prompts, or at every lane when it released a lock (R53; log 14). -/
def State.looksAfter (after before : State) (ls : List LaneIx) : State :=
  after.looks (if lockReleased before after then allLanes else ls)

end Sys2Proof.Machine
end

