-- ==== Sys2Proof/Machine/Outcomes.lean ====
section
/-! DEFINITION. The transaction engine: classification, the outcomes of duties and of hold transactions, the reports to the
lane, the quiet time, and the end of a waiting RETIRE DUTY (chapter 4; 05 R99 to R109; 06 R125, R126; 03 R64). -/

namespace Sys2Proof.Machine

-- Incident records made from outcomes (Tables 4-4, 5-4)

/-- An INTEGRITY incident (R82). -/
def integrityIncident (s : State) (l : LaneIx) (r : InFlight) : Incident where
  kind := .integrity
  epoch := s.now
  lane := l
  target := r.target
  duty := match r.kind with
    | .duty d => some d
    | .holdEntry => none
    | .holdExit => none
  attempt := some r.attempt
  status := r.status
  data := some r.data

/-- A DEVIATION incident (R83). -/
def deviationIncident (s : State) (l : LaneIx) (r : InFlight) (d : DutyIx) : Incident where
  kind := .deviation
  epoch := s.now
  lane := l
  target := r.target
  duty := some d
  attempt := some r.attempt
  status := some 0x61
  data := some r.data

/-- A DUTY-FAULTED incident with the failure as its Reason (R80, R84). -/
def dutyFaultedIncident (s : State) (l : LaneIx) (r : InFlight) (d : DutyIx) (why : Reason) : Incident where
  kind := .dutyFaulted
  reason := some why
  epoch := s.now
  lane := l
  target := r.target
  duty := some d
  attempt := some r.attempt
  status := r.status

/-- A HOLD-FAILED or STRANDED incident of a failed hold transaction (Table 5-4). -/
def holdIncident (s : State) (kind : IncidentKind) (l : LaneIx) (r : InFlight) (why : Reason) : Incident where
  kind := kind
  reason := some why
  epoch := s.now
  lane := l
  target := r.target
  attempt := some r.attempt
  status := r.status

/-- A STRANDED incident with Reason ABANDONED (R109, Table 5-4): the attempt is Hold attempts + 1 and no status is carried. -/
def abandonedIncident (s : State) (t : TargetIx) : Incident where
  kind := .stranded
  reason := some .abandoned
  epoch := s.now
  lane := (s.target t).defn.lane
  target := t
  attempt := some ((s.target t).holdAttempts + 1)

-- Duty outcomes (R76 to R81, R33, R34)

/-- Owed after a credited outcome: unchanged with Catch-up pending, otherwise one less, down to no less than -A (R33). -/
def creditedOwed (x : Duty) : Int :=
  if x.catchUp then x.owed
  else if x.owed ≤ -(x.defn.advanceLimit : Int) then x.owed else x.owed - 1

/-- The duty record after the accounting of a credited outcome (R33, R34 steps 1 to 5, R76). -/
def creditedDuty (x : Duty) (forcedMark : Bool) (last : LastOutcome) : Duty :=
  let owed := creditedOwed x
  { x with
    owed := owed
    catchUp := false
    forced := if forcedMark then false else x.forced
    overdue := if owed ≤ x.defn.deferLimit then false else x.overdue
    completions := x.completions + 1
    attempts := 0
    busyCount := 0
    backoffUntil := none
    lastOutcome := last
    inFlight := false }

/-- CREDITED (R34, R76). -/
def State.creditDuty (s : State) (r : InFlight) (d : DutyIx) : State :=
  (s.setDuty d (creditedDuty (s.duty d) r.forcedMark .credited)).offerTicket d

/-- DEVIATION: credited, with its incident between the credit and the ticket offer; a RUNNING duty with Halt on deviation
then faults (R34 step 6, R76, R83), a STOPPED one does not (R13). -/
def State.deviateDuty (s : State) (l : LaneIx) (r : InFlight) (d : DutyIx) : State :=
  let s1 := s.setDuty d (creditedDuty (s.duty d) r.forcedMark .deviation)
  let s2 := (s1.passIncident (deviationIncident s l r d)).offerTicket d
  if (s.duty d).state = .running && (s.duty d).defn.haltOnDeviation then s2.faultDuty d else s2

/-- The name of a failure as Last outcome (R79). -/
def Reason.toLast : Reason → LastOutcome
  | .noAnswer => .noAnswer
  | .timeout => .timeout
  | .rejected => .rejected
  | .integrity => .integrity
  | .busyLimit => .busyLimit
  | .abandoned => .abandoned

/-- The duty record after the accounting of a failure (R79, steps 1 to 3, 5 and 6). -/
def failedDuty (x : Duty) (why : Reason) : Duty :=
  { x with
    attempts := x.attempts + 1
    busyCount := 0
    backoffUntil := none
    lastOutcome := why.toLast
    inFlight := false }

/-- A failure of a duty transaction (R79, R80); a STOPPED duty gets no ticket, no fault and no DUTY-FAULTED incident (R13). -/
def State.failDuty (s : State) (l : LaneIx) (r : InFlight) (d : DutyIx) (why : Reason) : State :=
  let s1 := s.setDuty d (failedDuty (s.duty d) why)
  let s2 := if why = .integrity then s1.passIncident (integrityIncident s l r) else s1
  if (s2.duty d).attempts ≤ (s2.duty d).defn.retryLimit then s2.offerTicket d
  else if (s2.duty d).state = .running then (s2.faultDuty d).passIncident (dutyFaultedIncident s l r d why)
  else s2

/-- BUSY within the Busy limit: a backoff and no attempt used; beyond it, a failure BUSY-LIMIT (R77, R78). -/
def State.busyDuty (s : State) (l : LaneIx) (r : InFlight) (d : DutyIx) : State :=
  let x := s.duty d
  if x.busyCount + 1 ≤ x.defn.busyLimit then
    (s.setDuty d { x with
        busyCount := x.busyCount + 1
        backoffUntil := some (satAdd s.now (s.targetOf d).defn.busyBackoff)
        lastOutcome := .busy
        inFlight := false }).offerTicket d
  else s.failDuty l r d .busyLimit

/-- ABANDONED at CLOSE LANE (R81). -/
def State.abandonDuty (s : State) (d : DutyIx) : State :=
  (s.setDuty d { s.duty d with lastOutcome := .abandoned, inFlight := false }).offerTicket d

/-- The outcome of a duty transaction, as its owner takes it (section 4.3). -/
def State.dutyOutcome (s : State) (l : LaneIx) (r : InFlight) (d : DutyIx) : Outcome → State
  | .credited => s.creditDuty r d
  | .deviation => s.deviateDuty l r d
  | .busy => s.busyDuty l r d
  | .noAnswer => s.failDuty l r d .noAnswer
  | .timeout => s.failDuty l r d .timeout
  | .rejected => s.failDuty l r d .rejected
  | .integrity => s.failDuty l r d .integrity
  | .abandoned => s.abandonDuty d

-- Hold outcomes (R99, R100, R105, R107, R109)

/-- Every RUNNING duty of the target has its Next boundary suspended (R26). -/
def State.suspendDuties (s : State) (t : TargetIx) : State :=
  allDuties.foldl (init := s) fun acc d =>
    let x := acc.duty d
    if x.state = .running && x.defn.target = t then acc.setDuty d { x with nextBoundary := none } else acc

/-- A release taken in HELD, or an entry credited with Release pending: LEAVING with the exit pending and the minimum hold
running (R102, R99 step 5). -/
def releasedFromHeld (x : Target) : Target :=
  { x with
    holdState := .leaving
    holdTransaction := .exitPending
    holdAttempts := 0
    deadlineKind := .minimum
    deadline := x.heldSince.map fun e => satAdd e x.defn.minimumHold }

/-- The target after its entry is credited (R99). -/
def enteredTarget (x : Target) (now : Epoch) : Target :=
  let y : Target := { x with heldSince := some now, holdAttempts := 0, holdTransaction := .none, holdState := .held }
  if x.releasePending then releasedFromHeld { y with releasePending := false }
  else if x.defn.maximumHold ≠ 0 then
    { y with deadlineKind := .maximum, deadline := some (satAdd now (Config.maximumHoldUnit * x.defn.maximumHold)) }
  else { y with deadlineKind := .none, deadline := none }

/-- The entry is credited (R99, R26). -/
def State.entryCredited (s : State) (t : TargetIx) : State :=
  ((s.setTarget t (enteredTarget (s.target t) s.now)).suspendDuties t).setHoldCause

/-- The entry fails (R100). -/
def State.entryFailed (s : State) (l : LaneIx) (r : InFlight) (t : TargetIx) (why : Reason) : State :=
  let x := s.target t
  let n := x.holdAttempts + 1
  let spent := decide (x.defn.holdRetryLimit < n)
  let backToActive : Target :=
    { x with holdAttempts := n, releasePending := false, holdTransaction := .none, holdState := .active }
  if x.releasePending || spent then
    let s1 := s.setTarget t backToActive
    (if spent then s1.passIncident (holdIncident s .holdFailed l r why) else s1).setHoldCause
  else s.setTarget t { x with holdAttempts := n, holdTransaction := .entryPending }

/-- The target after its exit is credited (R105, steps 1 and 2). -/
def exitedTarget (x : Target) (now : Epoch) : Target :=
  let y : Target := { x with holdTransaction := .none, holdAttempts := 0, heldSince := none }
  if 0 < x.defn.settleTime then
    { y with holdState := .settling, deadlineKind := .settle, deadline := some (satAdd now x.defn.settleTime) }
  else { y with holdState := .active, deadlineKind := .none, deadline := none }

/-- What the credit of a target's exit does to one of its duties: a RUNNING duty is re-based with catch-up, and a WAITING duty
whose Start time is absent or reached becomes RUNNING without it (R36, R10). DESIGN CHOICE (log 22): a Start time equal to the
epoch of the credit is reached, and the duty starts here and not at its START_TIME. -/
def State.rebaseDuty (s : State) (d : DutyIx) : State :=
  let x := s.duty d
  if x.state = .running then
    ((s.setDuty d { x with nextBoundary := boundaryAfter s.now x.defn.interval, catchUp := true }).offerTicket d).reportIfPressed d
  else if x.state = .waiting && absentOrReached s.now x.defn.startTime then s.startRunning d
  else s

/-- The duties of the target, lowest Index first, at the credit of its exit (R36). -/
def State.rebaseDuties (s : State) (t : TargetIx) : State :=
  allDuties.foldl (init := s) fun acc d => if (acc.duty d).defn.target = t then acc.rebaseDuty d else acc

/-- The exit is credited (R105). -/
def State.exitCredited (s : State) (t : TargetIx) : State :=
  ((s.setTarget t (exitedTarget (s.target t) s.now)).rebaseDuties t).setHoldCause

/-- A STRANDED target (R107, R109). -/
def strandedTarget (x : Target) : Target :=
  { x with holdState := .stranded, holdTransaction := .none, deadlineKind := .none, deadline := none }

/-- The exit fails (R107). -/
def State.exitFailed (s : State) (l : LaneIx) (r : InFlight) (t : TargetIx) (why : Reason) : State :=
  let x := s.target t
  let n := x.holdAttempts + 1
  if n ≤ x.defn.holdRetryLimit then s.setTarget t { x with holdAttempts := n, holdTransaction := .exitPending }
  else
    ((s.setTarget t (strandedTarget { x with holdAttempts := n })).passIncident (holdIncident s .stranded l r why)).setHoldCause

/-- A hold transaction is abandoned (R109). -/
def State.holdAbandoned (s : State) (t : TargetIx) : State :=
  let x := s.target t
  (((s.setTarget t (strandedTarget { x with releasePending := false })).suspendDuties t).passIncident
    (abandonedIncident s t)).setHoldCause

/-- A failure of the entry or of the exit is handed to the target table (R85). -/
def State.holdFailed (s : State) (l : LaneIx) (r : InFlight) (entry : Bool) (why : Reason) : State :=
  if entry then s.entryFailed l r r.target why else s.exitFailed l r r.target why

/-- The entry or the exit is credited (R85). -/
def State.holdCredited (s : State) (r : InFlight) (entry : Bool) : State :=
  if entry then s.entryCredited r.target else s.exitCredited r.target

/-- The outcome of a hold transaction, as its owner takes it: a BUSY answer is a failure BUSY-LIMIT (R85). The engine records
the INTEGRITY incident before the target table's own (R82, R100, R107). A DEVIATION does not arise here (R74); it would be a
credited outcome. -/
def State.holdOutcome (s : State) (l : LaneIx) (r : InFlight) (entry : Bool) : Outcome → State
  | .credited => s.holdCredited r entry
  | .deviation => s.holdCredited r entry
  | .busy => s.holdFailed l r entry .busyLimit
  | .noAnswer => s.holdFailed l r entry .noAnswer
  | .timeout => s.holdFailed l r entry .timeout
  | .rejected => s.holdFailed l r entry .rejected
  | .integrity => (s.passIncident (integrityIncident s l r)).holdFailed l r entry .integrity
  | .abandoned => s.holdAbandoned r.target

/-- The outcome is handed to its owner (R72, step 2). -/
def State.ownerTakes (s : State) (l : LaneIx) (r : InFlight) (o : Outcome) : State :=
  match r.kind with
  | .duty d => s.dutyOutcome l r d o
  | .holdEntry => s.holdOutcome l r true o
  | .holdExit => s.holdOutcome l r false o

-- Reports to the lane (R75)

/-- The lane takes an INTEGRITY report (R126). -/
def suspectedLane (x : Lane) (now : Epoch) : Lane :=
  let n := x.integrityCount + 1
  let latches := decide (Config.integrityLatch ≤ n)
  { x with
    integrityCount := n
    gate := .suspect
    blackoutEnd := none
    yielding := false
    latched := latches || x.latched
    recoveryEnd := if !latches && x.autoResume then some (satAdd now x.recoveryTime) else none }

/-- Step 3 of R72: an INTEGRITY outcome is reported, and an outcome whose frame ended with a good check byte (R75, R125). -/
def State.reportToLane (s : State) (l : LaneIx) (o : Outcome) (goodCheck : Bool) : State :=
  if o = .integrity then (s.setLane l (suspectedLane (s.lane l) s.now)).setLaneCause
  else if goodCheck then s.setLane l { s.lane l with integrityCount := 0 }
  else s

-- Activity, quiet time and lock after an outcome (R64)

/-- The lane's activity after the outcome of a duty transaction with Quiet time `q` (R64, R62). -/
def State.quietStart (s : State) (l : LaneIx) (d : DutyIx) (q : Nat) (o : Outcome) : State :=
  if o ≠ .abandoned ∧ 0 < q then
    s.setLane l
      { s.lane l with
        activity := .quiet
        quietEnd := some (satAdd s.now q)
        quietLock := if s.holdsLock d then (s.lockOf d).map fun g => (g, d) else none }
  else (s.setLane l { s.lane l with activity := .idle }).releaseLockOf d

/-- Step 4 of R72: the record is removed, the frame has ended, and the activity leaves BUSY (R64). -/
def State.leaveBusy (s : State) (l : LaneIx) (r : InFlight) (q : Nat) (o : Outcome) : State :=
  let s1 := (s.setRecord l none).setLane l (s.lane l).endFrame
  match r.kind with
  | .duty d => s1.quietStart l d q o
  | .holdEntry => s1.setLane l { s1.lane l with activity := .idle }
  | .holdExit => s1.setLane l { s1.lane l with activity := .idle }

/-- A waiting RETIRE DUTY ends with its duty's outcome: the duty is vacated and DONE recorded (R15, R168). -/
def State.completeRetire (s : State) (r : InFlight) : State :=
  match r.kind with
  | .duty d => if (s.duty d).retirePending then (s.vacateDuty d).recordResult .done else s
  | .holdEntry => s
  | .holdExit => s

/-- The Quiet time that an outcome starts: that of the duty's definition before any vacating (R64). -/
def State.quietTimeOf (s : State) (r : InFlight) : Nat :=
  match r.kind with
  | .duty d => (s.duty d).defn.quietTime
  | .holdEntry => 0
  | .holdExit => 0

/-- The outcome of the lane's transaction is taken, without the look that follows it (R72). -/
def State.takeOutcome (s : State) (l : LaneIx) (r : InFlight) (o : Outcome) (goodCheck : Bool) : State :=
  (((s.ownerTakes l r o).reportToLane l o goodCheck).leaveBusy l r (s.quietTimeOf r) o).completeRetire r

/-- The outcome is taken and the looks it prompts follow: at its lane, and at every lane when it released a lock (R53, R72). -/
def State.endTransaction (s : State) (l : LaneIx) (r : InFlight) (o : Outcome) (goodCheck : Bool) : State :=
  (s.takeOutcome l r o goodCheck).looksAfter s [l]

-- Classification (R73, R74)

/-- Returned data equals the Expected value under the Mask (R2). -/
def equalUnderMask (expected mask data : List Byte) : Bool :=
  (List.zip expected (List.zip mask data)).all fun p => (p.1 &&& p.2.1) = (p.2.2 &&& p.2.1)

/-- DONE with a good check: CREDITED, or DEVIATION where Compare is set and the data differ in a checked bit (R74). -/
def State.classifyDone (s : State) (r : InFlight) : Outcome :=
  match r.kind with
  | .duty d =>
    let x := (s.duty d).defn
    if x.compare && !equalUnderMask (x.expected.getD []) (x.mask.getD []) r.data then .deviation else .credited
  | .holdEntry => .credited
  | .holdExit => .credited

/-- The data bytes that follow the status: Readback length after DONE for a duty, none otherwise (R70). -/
def State.expectedData (s : State) (r : InFlight) : Nat :=
  match r.kind with
  | .duty d => if r.status = some 0x61 then (s.duty d).defn.readbackLength else 0
  | .holdEntry => 0
  | .holdExit => 0

end Sys2Proof.Machine
end

