-- ==== Sys2Proof/Machine/LaneCommands.lean ====
section
/-! DEFINITION. What a lane does with its six commands (chapter 6). -/

namespace Sys2Proof.Machine

/-- The lane number check of every lane command (R116, check 1). -/
def withLane (number : Nat) (k : LaneIx → Answer) : Answer :=
  if h : number < 4 then k ⟨number, h⟩ else .refused .field

/-- A target that is not UNDEFINED has this lane as its Lane (R117). -/
def State.laneInUse (s : State) (l : LaneIx) : Bool :=
  allTargets.any fun t => (s.target t).holdState ≠ .undefined && (s.target t).defn.lane = l

/-- The lane with the configuration of a taken CONFIGURE LANE; an ADDRESSED lane records MSB-FIRST and LOW (R117). -/
def configuredLane (x : Lane) (c : LaneStaging) : Lane :=
  let y : Lane :=
    { x with
      configured := true
      mode := c.mode
      divider := c.divider
      autoResume := c.autoResume
      recoveryTime := c.recoveryTime
      bitOrder := if c.mode = .select then c.bitOrder else .msbFirst
      polarityHigh := if c.mode = .select then c.polarityHigh else false }
  { y with pins := y.idlePins }

/-- CONFIGURE LANE (R117). -/
def answerConfigureLane (s : State) : Answer :=
  let c := laneStaging s.port.latched
  withLane c.lane fun l =>
    let x := s.lane l
    .checked
      [(x.gate ≠ .closed, .state),
       (x.configured && x.mode ≠ c.mode && s.laneInUse l, .inUse),
       (c.divider = 0 || c.recoveryTime = 0, .field)]
      (.done (s.setLane l (configuredLane x c)))

/-- OPEN LANE (R119). -/
def answerOpenLane (s : State) : Answer :=
  withLane (stagedIndex s.port.latched) fun l =>
    let x := s.lane l
    .checked [(!x.configured || x.gate ≠ .closed, .state)]
      (.done ((s.setLane l { x with gate := .opened, integrityCount := 0, activity := .idle }).looksAfter s [l]))

/-- The lane after steps 2 to 4 of CLOSE LANE (R121, R140); the consecutive-integrity count is kept. -/
def closedLane (x : Lane) : Lane :=
  { x with
    gate := .closed
    activity := .idle
    blackoutEnd := none
    yielding := false
    recoveryEnd := none
    latched := false
    quietEnd := none
    quietLock := none
    pins := x.idlePins
    stopWaiting := false }

/-- A running quiet time ends and the lock it carries is released (R67). -/
def State.releaseQuietLock (s : State) (l : LaneIx) : State :=
  match (s.lane l).quietLock with
  | none => s
  | some (g, d) => s.releaseLock g d

/-- CLOSE LANE, its looks apart (R121): the transaction in flight ends ABANDONED (R86), the quiet time ends (R67), the gate
becomes CLOSED. -/
def State.closeLane (s : State) (l : LaneIx) : State :=
  let s1 := match s.record l with
    | none => s
    | some r => s.takeOutcome l r .abandoned false
  let s2 := s1.releaseQuietLock l
  s2.setLane l (closedLane (s2.lane l))

/-- CLOSE LANE (R121). The lane itself is not looked at; a released lock prompts looks at the others (R62). -/
def answerCloseLane (s : State) : Answer :=
  withLane (stagedIndex s.port.latched) fun l => .done ((s.closeLane l).looksAfter s [])

/-- A RUNNING duty of a target on the lane has Owed equal to its Defer limit plus one (R122). -/
def State.pressedOnLane (s : State) (l : LaneIx) : Bool :=
  allDuties.any fun d => (s.duty d).state = .running && s.laneOf d = l && (s.duty d).atLimit

/-- BLACKOUT LANE (R122). -/
def answerBlackoutLane (s : State) : Answer :=
  withLane (stagedIndex s.port.latched) fun l =>
    let x := s.lane l
    let length := stagedLength s.port.latched
    let yielding := stagedYield s.port.latched
    .checked
      [(x.gate = .closed || x.gate = .suspect, .state),
       (yielding && s.pressedOnLane l, .state),
       (length = 0, .field)]
      (.done (s.setLane l { x with gate := .blackout, blackoutEnd := some (satAdd s.now length), yielding := yielding }))

/-- The end of a blackout (R123). -/
def resumedLane (x : Lane) : Lane := { x with gate := .opened, blackoutEnd := none, yielding := false }

/-- RESUME LANE (R123). -/
def answerResumeLane (s : State) : Answer :=
  withLane (stagedIndex s.port.latched) fun l =>
    .checked [((s.lane l).gate ≠ .blackout, .state)]
      (.done ((s.setLane l (resumedLane (s.lane l))).looksAfter s [l]))

/-- CLEAR SUSPECT (R129). -/
def answerClearSuspect (s : State) : Answer :=
  withLane (stagedIndex s.port.latched) fun l =>
    let x := s.lane l
    .checked [(x.gate ≠ .suspect, .state)]
      (.done ((s.setLane l
        { x with gate := .opened, integrityCount := 0, latched := false, recoveryEnd := none }).looksAfter s [l]))

end Sys2Proof.Machine
end

