-- ==== Sys2Proof/Machine/Deadlines.lean ====
section
/-! DEFINITION. The deadlines that the epoch reaches. Each acts when its deadline is present and reached and its owner's rule
lets it act, and changes nothing otherwise (log 3). -/

namespace Sys2Proof.Machine

-- Duties

/-- An OVERDUE incident (R31). -/
def overdueIncident (s : State) (d : DutyIx) : Incident where
  kind := .overdue
  epoch := s.now
  lane := s.laneOf d
  target := (s.duty d).defn.target
  duty := some d

/-- A miss: a boundary that finds Owed at D+1 (R29, R31). -/
def State.missBoundary (s : State) (d : DutyIx) : State :=
  let x := s.duty d
  let s1 := s.setDuty d { x with overdue := true, misses := if x.misses < Config.missesMax then x.misses + 1 else x.misses }
  if x.overdue then s1 else s1.passIncident (overdueIncident s d)

/-- The effects of a boundary that arrives at the old Next boundary `b`, its looks apart (R28). -/
def State.boundaryAt (s : State) (d : DutyIx) (b : Epoch) : State :=
  let x := s.duty d
  let s1 := s.setDuty d { x with nextBoundary := boundaryAfter b x.defn.interval }
  if x.owed < x.defn.deferLimit + 1 then
    let s2 := s1.setDuty d { s1.duty d with owed := x.owed + 1 }
    (if 1 ≤ x.owed + 1 then s2.offerTicket d else s2).reportIfPressed d
  else
    let s2 := s1.missBoundary d
    if 1 ≤ x.owed then s2.offerTicket d else s2

/-- The Next boundary that an accruing duty has reached (R28). -/
def State.boundaryDue (s : State) (d : DutyIx) : Option Epoch :=
  if s.accrues d then (s.duty d).nextBoundary.filter (reached s.now) else none

/-- BOUNDARY (R28, R29). -/
def execBoundary (d : DutyIx) (s : State) : Host.Outcome State Fault Refusal :=
  .next (match s.boundaryDue d with
    | some b => (s.boundaryAt d b).looksAfter s [s.laneOf d]
    | none => s)

/-- A WAITING duty whose Start time is reached while its target's hold state is accruing (R10). -/
def State.startTimeDue (s : State) (d : DutyIx) : Bool :=
  (s.duty d).state = .waiting && presentAndReached s.now (s.duty d).defn.startTime && (s.targetOf d).holdState.accruing

/-- START_TIME (R10). -/
def execStartTime (d : DutyIx) (s : State) : Host.Outcome State Fault Refusal :=
  .next (if s.startTimeDue d then (s.startRunning d).looksAfter s [s.laneOf d] else s)

/-- A RUNNING, WAITING or FAULTED duty whose Stop time is reached (R12). -/
def State.stopTimeDue (s : State) (d : DutyIx) : Bool :=
  let st := (s.duty d).state
  (st = .running || st = .waiting || st = .faulted) && presentAndReached s.now (s.duty d).defn.stopTime

/-- STOP_TIME (R12). -/
def execStopTime (d : DutyIx) (s : State) : Host.Outcome State Fault Refusal :=
  .next (if s.stopTimeDue d then (s.stopDuty d).looksAfter s [s.laneOf d] else s)

/-- BACKOFF_END changes no field and prompts a look at the duty's lane (R50, R53). -/
def execBackoffEnd (d : DutyIx) (s : State) : Host.Outcome State Fault Refusal :=
  .next (if presentAndReached s.now (s.duty d).backoffUntil then s.looks [s.laneOf d] else s)

-- Lanes

/-- What the Response deadline of a record does when it is reached (R71). -/
inductive DeadlineAct where
  | timeout | mark | nothing
  deriving DecidableEq, Repr

/-- By the Phase, and whether the target holds an ADDRESSED lane's clock line low (R71). -/
def deadlineAct (x : Lane) (r : InFlight) : DeadlineAct :=
  match r.phase with
  | .wait => .timeout
  | .request => if x.clockHeld then .timeout else .mark
  | .response => if x.clockHeld then .timeout else .nothing

/-- The record of a lane, when its Response deadline is reached (R71). -/
def State.responseDue (s : State) (l : LaneIx) : Option InFlight :=
  (s.record l).filter fun r => reached s.now r.deadline

/-- RESPONSE_DEADLINE (R71). -/
def execResponseDeadline (l : LaneIx) (s : State) : Host.Outcome State Fault Refusal :=
  .next (match s.responseDue l with
    | some r =>
      match deadlineAct (s.lane l) r with
      | .timeout => s.endTransaction l r .timeout false
      | .mark => s.setRecord l (some { r with deadlinePassed := true })
      | .nothing => s
    | none => s)

/-- The quiet end of a QUIET lane is reached (R65). -/
def State.quietEndDue (s : State) (l : LaneIx) : Bool :=
  (s.lane l).activity = .quiet && presentAndReached s.now (s.lane l).quietEnd

/-- The effects of a quiet end, its looks apart (R65). -/
def State.endQuiet (s : State) (l : LaneIx) : State :=
  (s.releaseQuietLock l).setLane l { s.lane l with activity := .idle, quietEnd := none, quietLock := none }

/-- QUIET_END (R65). -/
def execQuietEnd (l : LaneIx) (s : State) : Host.Outcome State Fault Refusal :=
  .next (if s.quietEndDue l then (s.endQuiet l).looksAfter s [l] else s)

/-- The Blackout end of a lane in BLACKOUT is reached (R123). -/
def State.blackoutEndDue (s : State) (l : LaneIx) : Bool :=
  (s.lane l).gate = .blackout && presentAndReached s.now (s.lane l).blackoutEnd

/-- BLACKOUT_END (R123). -/
def execBlackoutEnd (l : LaneIx) (s : State) : Host.Outcome State Fault Refusal :=
  .next (if s.blackoutEndDue l then (s.setLane l (resumedLane (s.lane l))).looks [l] else s)

/-- The Recovery end of a SUSPECT lane is reached (R128). -/
def State.recoveryDue (s : State) (l : LaneIx) : Bool :=
  (s.lane l).gate = .suspect && presentAndReached s.now (s.lane l).recoveryEnd

/-- AUTO_RESUME: the gate opens with the consecutive-integrity count kept, and the LANE cause is set (R128). -/
def execAutoResume (l : LaneIx) (s : State) : Host.Outcome State Fault Refusal :=
  .next (if s.recoveryDue l then
      ((s.setLane l { s.lane l with gate := .opened, recoveryEnd := none }).setLaneCause).looks [l]
    else s)

-- Targets

/-- The deadline of a target in a hold state, with a Deadline kind, is reached. -/
def State.targetDue (s : State) (t : TargetIx) (h : HoldState) (k : DeadlineKind) : Bool :=
  (s.target t).holdState = h && (s.target t).deadlineKind = k && presentAndReached s.now (s.target t).deadline

/-- MINIMUM_HOLD_END changes no field and prompts a look that may issue the exit (R53, R96). -/
def execMinimumHoldEnd (t : TargetIx) (s : State) : Host.Outcome State Fault Refusal :=
  .next (if s.targetDue t .leaving .minimum then s.looks [(s.target t).defn.lane] else s)

/-- A HOLD-EXPIRED incident (Table 5-4). -/
def holdExpiredIncident (s : State) (t : TargetIx) : Incident where
  kind := .holdExpired
  epoch := s.now
  lane := (s.target t).defn.lane
  target := t

/-- The target after its maximum-hold end (R104). -/
def expiredTarget (x : Target) : Target :=
  { x with holdState := .leaving, holdTransaction := .exitPending, holdAttempts := 0, deadlineKind := .none, deadline := none }

/-- MAXIMUM_HOLD_END (R104). -/
def execMaximumHoldEnd (t : TargetIx) (s : State) : Host.Outcome State Fault Refusal :=
  .next (if s.targetDue t .held .maximum then
      (((s.setTarget t (expiredTarget (s.target t))).passIncident (holdExpiredIncident s t)).setHoldCause).looks
        [(s.target t).defn.lane]
    else s)

/-- SETTLE_END (R106). -/
def execSettleEnd (t : TargetIx) (s : State) : Host.Outcome State Fault Refusal :=
  .next (if s.targetDue t .settling .settle then
      (s.setTarget t { s.target t with holdState := .active, deadlineKind := .none, deadline := none }).looks
        [(s.target t).defn.lane]
    else s)

end Sys2Proof.Machine
end

