-- ==== Sys2Proof/Machine/FrameEvents.lean ====
section
/-! DEFINITION. What a lane reports of the frame of its transaction, and the clock line of an ADDRESSED lane (04 R70, R71, R73;
06 R133 to R137, R139). A report that the frame of the record cannot give changes nothing (log 3). -/

namespace Sys2Proof.Machine

/-- The record whose frame can move: with the clock line of an ADDRESSED lane held low, no byte and no acknowledge passes
(R134, R139; log 9). -/
def State.movingRecord (s : State) (l : LaneIx) : Option InFlight :=
  if (s.lane l).clockHeld then none else s.record l

/-- The order in which the bits of a byte go on the lane's link, in both directions: the Bit order of a SELECT lane, and the most
significant bit first on an ADDRESSED one (R132, R134). -/
def Lane.wireOrder (x : Lane) : BitOrder :=
  match x.mode with
  | .select => x.bitOrder
  | .addressed => .msbFirst

/-- The byte that the lane makes of the eight bits it samples, on LnDI or on the data line, in the order of their bit times: the
value of STATUS_READ, DATA_BYTE and CHECK_BYTE (R132 to R134, R136; log 21). -/
def Lane.byteRead (x : Lane) (samples : List Bool) : Byte := byteOfWire x.wireOrder samples

/-- A status may be read: the first after the request, or the next at a tick begun since the last (R133, R136; log 7). -/
def mayReadStatus (r : InFlight) : Bool :=
  match r.phase with
  | .request => true
  | .wait => r.tickSinceRead
  | .response => false

/-- The outcome of a transaction whose record has taken a last change. -/
def State.endWith (s : State) (l : LaneIx) (r : InFlight) (o : Outcome) (goodCheck : Bool) : State :=
  ((s.setRecord l (some r)).takeOutcome l r o goodCheck).looksAfter s [l]

/-- A read of PENDING: TIMEOUT at the first read of a record whose deadline has passed, otherwise WAIT (R70, R71). -/
def State.readPending (s : State) (l : LaneIx) (r : InFlight) : State :=
  let r1 : InFlight := { r with status := some 0x00, phase := .wait, tickSinceRead := false }
  if r.phase = .request && r.deadlinePassed then s.endWith l r1 .timeout false else s.setRecord l (some r1)

/-- A status byte read, with the record and the lane mode as they stand (R70, R71, R73, R133, R136). -/
def State.readStatus (s : State) (l : LaneIx) (r : InFlight) (value : Byte) : State :=
  if value = 0x00 then s.readPending l r
  else if value = 0x61 ∨ value = 0x62 ∨ value = 0x63 then
    s.setRecord l (some { r with status := some value, phase := .response })
  else if value = 0xFF ∧ (s.lane l).mode = .select ∧ r.phase = .request then s.endWith l r .noAnswer false
  else s.endWith l { r with status := some value } .integrity false

/-- STATUS_READ (R70). Its value is `Lane.byteRead` of the eight samples, as that of DATA_BYTE and CHECK_BYTE is. -/
def execStatusRead (l : LaneIx) (value : Byte) (s : State) : Host.Outcome State Fault Refusal :=
  .next (match (s.movingRecord l).filter mayReadStatus with
    | some r => s.readStatus l r value
    | none => s)

/-- A data byte is still to come (R70). -/
def State.awaitsData (s : State) (r : InFlight) : Bool :=
  r.phase = .response && decide (r.data.length < s.expectedData r)

/-- DATA_BYTE (R70). -/
def execDataByte (l : LaneIx) (value : Byte) (s : State) : Host.Outcome State Fault Refusal :=
  .next (match (s.movingRecord l).filter s.awaitsData with
    | some r => s.setRecord l (some { r with data := r.data ++ [value] })
    | none => s)

/-- The data bytes are in, and the check byte is next (R70, R74). -/
def State.awaitsCheck (s : State) (r : InFlight) : Bool :=
  r.phase = .response && decide (s.expectedData r ≤ r.data.length)

/-- The outcome of a frame that ends with this check byte, and whether the check is good (R73, R74, R137). -/
def State.classify (s : State) (r : InFlight) (check : Byte) : Outcome × Bool :=
  if check = responseCheck (r.status.getD 0) r.data then
    if r.status = some 0x61 then (s.classifyDone r, true)
    else if r.status = some 0x62 then (.busy, true)
    else (.rejected, true)
  else (.integrity, false)

/-- CHECK_BYTE (R137, R72). -/
def execCheckByte (l : LaneIx) (value : Byte) (s : State) : Host.Outcome State Fault Refusal :=
  .next (match (s.movingRecord l).filter s.awaitsCheck with
    | some r => s.endTransaction l r (s.classify r value).1 (s.classify r value).2
    | none => s)

/-- The address byte of a write phase or of a read phase can go unacknowledged now (R135, R136; log 16). -/
def Lane.mayMissAddress (x : Lane) (r : InFlight) : Bool := x.mode = .addressed && mayReadStatus r

/-- ADDRESS_NOT_ACKNOWLEDGED: NO-ANSWER, with a Status read before kept (R135, R136, R84). -/
def execAddressNotAcknowledged (l : LaneIx) (s : State) : Host.Outcome State Fault Refusal :=
  .next (match (s.movingRecord l).filter (s.lane l).mayMissAddress with
    | some r => s.endTransaction l r .noAnswer false
    | none => s)

/-- A request byte can be refused: on an ADDRESSED lane, in REQUEST (R135). -/
def Lane.mayRefuseByte (x : Lane) (r : InFlight) : Bool := x.mode = .addressed && r.phase = .request

/-- REQUEST_BYTE_REFUSED: REJECTED without a check byte (R135, R75). -/
def execRequestByteRefused (l : LaneIx) (s : State) : Host.Outcome State Fault Refusal :=
  .next (match (s.movingRecord l).filter (s.lane l).mayRefuseByte with
    | some r => s.endTransaction l r .rejected false
    | none => s)

/-- The record that a hold of the clock line ends at once: in REQUEST or RESPONSE, its deadline reached (R71). -/
def State.holdEnds (s : State) (l : LaneIx) : Option InFlight :=
  (s.record l).filter fun r => r.phase ≠ .wait && reached s.now r.deadline

/-- CLOCK_LINE_HOLD: the target pulls the clock line low; on an ADDRESSED lane, a transaction whose deadline has been reached
ends TIMEOUT (R71, R134). -/
def execClockLineHold (l : LaneIx) (s : State) : Host.Outcome State Fault Refusal :=
  let s1 := s.setLane l { s.lane l with lineHeld := true }
  .next (if (s1.lane l).clockHeld then
      match s1.holdEnds l with
      | some r => s1.endTransaction l r .timeout false
      | none => s1
    else s1)

/-- The pins of a lane whose clock line is let go: a waiting stop completes, and a transaction issued meanwhile begins its
frame (R139). -/
def State.releasedPins (s : State) (l : LaneIx) : Pins :=
  match s.record l with
  | some r => (s.lane l).framePins (s.target r.target).defn.address
  | none => (s.lane l).idlePins

/-- CLOCK_LINE_RELEASE (R134, R139). -/
def execClockLineRelease (l : LaneIx) (s : State) : Host.Outcome State Fault Refusal :=
  .next (s.setLane l
    (if (s.lane l).stopWaiting then { s.lane l with lineHeld := false, stopWaiting := false, pins := s.releasedPins l }
     else { s.lane l with lineHeld := false }))

/-- The bytes of the request frame that a record stands for (R74, R98, section 10.6). -/
def State.requestOf (s : State) (r : InFlight) : List Byte :=
  let x := (s.target r.target).defn
  match r.kind with
  | .duty d => requestBytes (s.duty d).defn.actionCode (s.duty d).defn.payload
  | .holdEntry => requestBytes x.entryCode x.entryPayload
  | .holdExit => requestBytes x.exitCode x.exitPayload

/-- What the part sends for the request of a lane's transaction (R132, R135). -/
def State.requestFrame (s : State) (l : LaneIx) : List Symbol :=
  match s.record l with
  | none => []
  | some r =>
    let address := (s.target r.target).defn.address
    match (s.lane l).mode with
    | .select => selectRequest (s.lane l).wireOrder address (s.requestOf r)
    | .addressed => addressedRequest address (s.requestOf r)

end Sys2Proof.Machine
end

