-- ==== Sys2Proof/Machine/Views.lean ====
section
/-! DEFINITION. What the host reads: the packing of the snapshot window, the incident window and the status registers
(chapter 10). -/

namespace Sys2Proof.Machine

-- Codes of names

def DutyState.code : DutyState → Nat
  | .vacant => 0
  | .stopped => 1
  | .waiting => 2
  | .running => 3
  | .faulted => 4

def LastOutcome.code : LastOutcome → Nat
  | .none => 0
  | .credited => 1
  | .deviation => 2
  | .busy => 3
  | .noAnswer => 4
  | .timeout => 5
  | .rejected => 6
  | .integrity => 7
  | .busyLimit => 8
  | .abandoned => 9

def HoldState.code : HoldState → Nat
  | .undefined => 0
  | .active => 1
  | .entering => 2
  | .held => 3
  | .leaving => 4
  | .settling => 5
  | .stranded => 6

def HoldTransaction.code : HoldTransaction → Nat
  | .none => 0
  | .entryPending => 1
  | .entryInFlight => 2
  | .exitPending => 3
  | .exitInFlight => 4

def DeadlineKind.code : DeadlineKind → Nat
  | .none => 0
  | .minimum => 1
  | .maximum => 2
  | .settle => 3

def Gate.code : Gate → Nat
  | .closed => 0
  | .opened => 1
  | .blackout => 2
  | .suspect => 3

def Activity.code : Activity → Nat
  | .idle => 0
  | .busy => 1
  | .quiet => 2

def IncidentKind.code : IncidentKind → Nat
  | .dutyFaulted => 1
  | .integrity => 2
  | .deviation => 3
  | .overdue => 4
  | .holdFailed => 5
  | .stranded => 6
  | .holdExpired => 7

def Reason.code : Reason → Nat
  | .noAnswer => 1
  | .timeout => 2
  | .rejected => 3
  | .integrity => 4
  | .busyLimit => 5
  | .abandoned => 6

def CmdResult.code : CmdResult → Nat
  | .none => 0
  | .done => 1
  | .state => 2
  | .field => 3
  | .inUse => 4
  | .duplicate => 5
  | .catchUp => 6
  | .aborted => 7
  | .tooLate => 8
  | .unknown => 9

-- Snapshot window (R181, Table 10-6)

/-- The copy of a duty record, kind DUTY. -/
def dutySnapshot (d : DutyIx) (x : Duty) : Snapshot where
  kind := .duty
  words :=
    #v[fieldAt 1 0 ||| fieldAt d.val 8,
      fieldAt x.state.code 0 ||| flagBit x.catchUp 4 ||| flagBit x.forced 5 ||| flagBit x.overdue 6 ||| flagBit x.ticket 7 |||
        flagBit x.inFlight 8 ||| flagBit x.retirePending 9 ||| flagBit x.nextBoundary.isSome 10 ||| flagBit x.backoffUntil.isSome 11,
      BitVec.ofInt 16 x.owed,
      fieldAt x.attempts 0 ||| fieldAt x.busyCount 4 ||| fieldAt x.lastOutcome.code 8,
      fieldAt x.defn.target.val 0 ||| fieldAt x.defn.shareGroup 8,
      optEpochWord x.nextBoundary 0, optEpochWord x.nextBoundary 1, optEpochWord x.nextBoundary 2,
      optEpochWord x.backoffUntil 0, optEpochWord x.backoffUntil 1, optEpochWord x.backoffUntil 2,
      x.completions.extractLsb' 0 16, x.completions.extractLsb' 16 16,
      BitVec.ofNat 16 x.misses, 0, 0]

/-- The copy of a target record, kind TARGET, with the number of duties that name it and of those with Catch-up pending
(R111). -/
def targetSnapshot (t : TargetIx) (x : Target) (naming catchUps : Nat) : Snapshot where
  kind := .target
  words :=
    #v[fieldAt 2 0 ||| fieldAt t.val 8,
      fieldAt x.holdState.code 0 ||| fieldAt x.holdTransaction.code 4 ||| fieldAt x.deadlineKind.code 8 |||
        flagBit x.releasePending 10 ||| flagBit x.heldSince.isSome 11 ||| fieldAt x.holdAttempts 12,
      fieldAt x.defn.lane.val 0 ||| fieldAt x.defn.address.toNat 8,
      optEpochWord x.heldSince 0, optEpochWord x.heldSince 1, optEpochWord x.heldSince 2,
      optEpochWord x.deadline 0, optEpochWord x.deadline 1, optEpochWord x.deadline 2,
      0, 0, 0, 0, 0,
      fieldAt naming 0 ||| fieldAt catchUps 8, 0]

/-- The number of duties, not VACANT, that name the target (R111). -/
def State.namingCount (s : State) (t : TargetIx) : Nat := allDuties.countP (s.names t)

/-- The number of those duties whose Catch-up pending is set (R111). -/
def State.catchUpCount (s : State) (t : TargetIx) : Nat := allDuties.countP fun d => s.names t d && (s.duty d).catchUp

-- Incident window (R155, R182, Table 10-7)

/-- Word `k` of the incident window for a record at the head of the queue. -/
def incidentWord (i : Incident) (k : Nat) : Word :=
  match k with
  | 0 =>
    fieldAt i.kind.code 0 ||| fieldAt ((i.reason.map Reason.code).getD 0) 4 ||| fieldAt i.lane.val 8 |||
      flagBit i.duty.isSome 10 ||| flagBit i.status.isSome 11 ||| flagBit i.data.isSome 12 ||| fieldAt (i.attempt.getD 0) 13
  | 1 => i.sequence
  | 2 => epochWord i.epoch 0
  | 3 => epochWord i.epoch 1
  | 4 => epochWord i.epoch 2
  | 5 => fieldAt i.target.val 0 ||| fieldAt ((i.duty.map Fin.val).getD 0) 8
  | 6 => fieldAt ((i.status.getD 0).toNat) 0 ||| fieldAt ((i.data.getD []).length) 8
  | 7 => byteWord (i.data.getD []) 0
  | 8 => byteWord (i.data.getD []) 1
  | 9 => byteWord (i.data.getD []) 2
  | 10 => byteWord (i.data.getD []) 3
  | _ => 0

/-- Word `k` of the incident window; 0 while the queue is empty (R155). -/
def State.incidentWindow (s : State) (k : Nat) : Word :=
  match s.inc.queue with
  | [] => 0
  | i :: _ => incidentWord i k

-- Status registers (R178, R179)

/-- PORT_STATUS (Table 10-2). -/
def Port.status (p : Port) : Word :=
  flagBit (p.state = .working) 0 ||| flagBit p.collision 1 ||| fieldAt p.result.code 4 ||| fieldAt p.code.toNat 8

/-- LANE_STATUS (Table 10-4). -/
def Lane.status (x : Lane) : Word :=
  fieldAt x.gate.code 0 ||| fieldAt x.activity.code 2 ||| fieldAt x.integrityCount 4 ||| flagBit x.latched 6 ||| flagBit x.configured 7

end Sys2Proof.Machine
end

