-- ==== Sys2Proof/Machine/DutyCommands.lean ====
section
/-! DEFINITION. What the duty table does with its eight commands (chapters 1 and 2). Each acts on a state whose latched
parameters are the command's (R165) and answers; the port records the result. -/

namespace Sys2Proof.Machine

/-- The Index check of every duty command (R5, check 1). -/
def withDuty (index : Nat) (k : DutyIx → Answer) : Answer :=
  if h : index < 64 then k ⟨index, h⟩ else .refused .field

/-- Both times are present and the Stop time is not later than the Start time (R6, R8). -/
def stopNotLater (start stop : Option Epoch) : Bool :=
  match start, stop with
  | some a, some b => decide (b.toNat ≤ a.toNat)
  | _, _ => false

/-- A present Initial owed outside -A..D+1 (R6). -/
def owedOutside (deferLimit advanceLimit : Nat) (v : Int) : Bool :=
  decide (v < -(advanceLimit : Int) ∨ (deferLimit : Int) + 1 < v)

/-- The target number is above 31, or names a target that is UNDEFINED (R6, check 8). -/
def State.noTarget (s : State) (n : Nat) : Bool :=
  if h : n < 32 then (s.target ⟨n, h⟩).holdState = .undefined else true

/-- A field of Table 1-1 outside its range (R6, check 5). -/
def dutyFieldBad (x : DutyStaging) : Bool :=
  decide (Config.payloadMax < x.payloadLength) || decide (Config.payloadMax < x.readbackLength) ||
    decide (x.interval < Config.intervalMin) || decide (Config.intervalMax < x.interval) ||
    decide (Config.limitMax < x.deferLimit) || decide (Config.limitMax < x.advanceLimit) ||
    (match x.initialOwed with
      | some v => owedOutside x.deferLimit x.advanceLimit v
      | none => false) ||
    decide (Config.retryMax < x.retryLimit) || decide (x.busyLimit = 0) || decide (Config.limitMax < x.busyLimit) ||
    decide (Config.quietMax < x.quietTime) || decide (Config.shareGroupMax < x.shareGroup)

/-- The checks of DEFINE DUTY after the Index, in their order (R6). -/
def State.defineDutyChecks (s : State) (d : DutyIx) : List (Bool × CmdResult) :=
  let x := dutyStaging s.port.latched
  let st := (s.duty d).state
  [(st = .running || st = .waiting || st = .faulted, .state),
   (st = .stopped && (s.duty d).inFlight, .state),
   (st = .stopped && s.holdsLock d, .state),
   (dutyFieldBad x, .field),
   (x.compare && x.readbackLength = 0, .field),
   (stopNotLater x.startTime x.stopTime, .field),
   (s.noTarget x.target, .field)]

/-- DEFINE DUTY (R6, R7). -/
def answerDefineDuty (s : State) : Answer :=
  withDuty (stagedIndex s.port.latched) fun d =>
    .checked (s.defineDutyChecks d) (.done (s.setDuty d { defn := dutyDefOf s.port.latched, state := .stopped }))

/-- The Start time that a START DUTY uses: the one given, or else the record's (R8). -/
def State.startTimeUsed (s : State) (d : DutyIx) : Option Epoch :=
  match stagedStartTime s.port.latched with
  | some e => some e
  | none => (s.duty d).defn.startTime

/-- The checks of START DUTY after the Index (R8). -/
def State.startDutyChecks (s : State) (d : DutyIx) : List (Bool × CmdResult) :=
  let x := s.duty d
  [(x.state ≠ .stopped, .state),
   (x.inFlight, .state),
   (stopNotLater (s.startTimeUsed d) x.defn.stopTime, .field),
   (presentAndReached s.now x.defn.stopTime, .field)]

/-- The duty record that a START DUTY sets before it chooses WAITING or RUNNING (R8, R9). -/
def startedDuty (x : Duty) (start : Option Epoch) : Duty :=
  { x with
    defn := { x.defn with startTime := start }
    owed := x.defn.initialOwed.getD 1
    overdue := false
    attempts := 0
    busyCount := 0
    backoffUntil := none }

/-- The start leaves the duty WAITING: its Start time is present and not reached, or its target is HELD, LEAVING or STRANDED
(R9). -/
def State.startWaits (s : State) (d : DutyIx) (start : Option Epoch) : Bool :=
  !absentOrReached s.now start || !(s.targetOf d).holdState.accruing

/-- START DUTY (R8, R9). -/
def answerStartDuty (s : State) : Answer :=
  withDuty (stagedIndex s.port.latched) fun d =>
    .checked (s.startDutyChecks d) <|
      let start := s.startTimeUsed d
      let x := startedDuty (s.duty d) start
      let s1 :=
        if s.startWaits d start then s.setDuty d { x with state := .waiting, nextBoundary := none }
        else (s.setDuty d x).startRunning d
      .done (s1.looksAfter s [s.laneOf d])

/-- STOP DUTY (R11). -/
def answerStopDuty (s : State) : Answer :=
  withDuty (stagedIndex s.port.latched) fun d =>
    .checked [((s.duty d).state = .vacant || (s.duty d).state = .stopped, .state)]
      (.done ((s.stopDuty d).looksAfter s [s.laneOf d]))

/-- RETIRE DUTY: at once with nothing in flight (R14); otherwise the duty is stopped, Retire pending is set and the port waits
(R15). -/
def answerRetireDuty (s : State) : Answer :=
  withDuty (stagedIndex s.port.latched) fun d =>
    .checked [((s.duty d).state = .vacant, .state)] <|
      if (s.duty d).inFlight then
        let s1 := if (s.duty d).state = .running then s.stopDuty d else s
        .waits (s1.setDuty d { s1.duty d with retirePending := true })
      else .done ((s.vacateDuty d).looksAfter s [s.laneOf d])

/-- The duty record that a REVIVE DUTY leaves (R18). -/
def State.revivedDuty (s : State) (d : DutyIx) : Duty :=
  let x := s.duty d
  { x with
    attempts := 0
    busyCount := 0
    backoffUntil := none
    state := .running
    nextBoundary := if (s.targetOf d).holdState.accruing then boundaryAfter s.now x.defn.interval else none }

/-- REVIVE DUTY (R18, R32). -/
def answerReviveDuty (s : State) : Answer :=
  withDuty (stagedIndex s.port.latched) fun d =>
    .checked [((s.duty d).state ≠ .faulted, .state)] <|
      .done ((((s.setDuty d (s.revivedDuty d)).offerTicket d).reportIfPressed d).looksAfter s [s.laneOf d])

/-- The effects of SET OWED, its looks apart (R40, steps 1 to 5). -/
def State.setOwed (s : State) (d : DutyIx) (v : Int) : State :=
  let x := s.duty d
  let s1 := s.setDuty d { x with owed := v, overdue := if v ≤ x.defn.deferLimit then false else x.overdue }
  let s2 := s1.offerTicket d
  let s3 := if decide (v ≤ 0) && !x.catchUp && !x.forced then s2.removeTicket d else s2
  if x.owed < x.defn.deferLimit + 1 then s3.reportIfPressed d else s3

/-- SET OWED (R40). A look follows a change of the duty (R53). -/
def answerSetOwed (s : State) : Answer :=
  withDuty (stagedIndex s.port.latched) fun d =>
    let v := stagedOwed s.port.latched
    .checked
      [((s.duty d).state = .vacant, .state),
       (owedOutside (s.duty d).defn.deferLimit (s.duty d).defn.advanceLimit v, .field)]
      (let s1 := s.setOwed d v
       .done (s1.looksAfter s (if s1.duty d = s.duty d then [] else [s.laneOf d])))

/-- PROD DUTY (R38). On a duty whose Forced pending is already set it changes nothing further. -/
def answerProdDuty (s : State) : Answer :=
  withDuty (stagedIndex s.port.latched) fun d =>
    .checked [((s.duty d).state ≠ .running, .state)] <|
      if (s.duty d).forced then .done s
      else .done (((s.setDuty d { s.duty d with forced := true }).offerTicket d).looksAfter s [s.laneOf d])

/-- SNAPSHOT DUTY: the copy, and with the Clear option the counts set to 0 after it (R19, R20). -/
def answerSnapshotDuty (s : State) : Answer :=
  withDuty (stagedIndex s.port.latched) fun d =>
    let s1 : State := { s with port := { s.port with snapshot := dutySnapshot d (s.duty d) } }
    .done (if stagedClear s.port.latched then s1.setDuty d { s.duty d with completions := 0, misses := 0 } else s1)

end Sys2Proof.Machine
end

