-- ==== Sys2Proof/Machine/TargetCommands.lean ====
section
/-! DEFINITION. What the target table does with its five commands (chapter 5). -/

namespace Sys2Proof.Machine

/-- The Index check of every target command (R92, check 1). -/
def withTarget (index : Nat) (k : TargetIx → Answer) : Answer :=
  if h : index < 32 then k ⟨index, h⟩ else .refused .field

/-- A duty that is not VACANT names the target (R93, R95). -/
def State.inUse (s : State) (t : TargetIx) : Bool := allDuties.any (s.names t)

/-- Another defined target has the same Lane and the same Address (R93). -/
def State.duplicate (s : State) (t : TargetIx) (lane : Nat) (address : Byte) : Bool :=
  allTargets.any fun u =>
    u ≠ t && (s.target u).holdState ≠ .undefined && (s.target u).defn.lane.val = lane && (s.target u).defn.address = address

/-- The Lane is above 3, is UNCONFIGURED, or its mode does not suit the Address (R93). -/
def State.laneUnsuited (s : State) (lane : Nat) (address : Byte) : Bool :=
  if h : lane < 4 then
    let x := s.lane ⟨lane, h⟩
    !x.configured ||
      match x.mode with
      | .addressed => decide (address.toNat < 0x08 ∨ 0x77 < address.toNat)
      | .select => decide (7 < address.toNat)
  else true

/-- The checks of DEFINE TARGET after the Index. DEDUCED (log 8): in the order of R92, IN-USE and DUPLICATE before FIELD. -/
def State.defineTargetChecks (s : State) (t : TargetIx) : List (Bool × CmdResult) :=
  let x := targetStaging s.port.latched
  let st := (s.target t).holdState
  [(st ≠ .undefined && st ≠ .active, .state),
   (st = .active && s.inUse t, .inUse),
   (s.duplicate t x.lane x.address, .duplicate),
   (s.laneUnsuited x.lane x.address || x.responseTimeout = 0 || x.busyBackoff = 0 ||
      decide (Config.holdPayloadMax < x.entryLength) || decide (Config.holdPayloadMax < x.exitLength) ||
      decide (Config.retryMax < x.holdRetryLimit), .field)]

/-- DEFINE TARGET (R93, R94). -/
def answerDefineTarget (s : State) : Answer :=
  withTarget (stagedIndex s.port.latched) fun t =>
    .checked (s.defineTargetChecks t) (.done (s.setTarget t { defn := targetDefOf s.port.latched, holdState := .active }))

/-- DROP TARGET (R95). -/
def answerDropTarget (s : State) : Answer :=
  withTarget (stagedIndex s.port.latched) fun t =>
    let st := (s.target t).holdState
    .checked [(st = .undefined || st = .entering || st = .leaving, .state), (s.inUse t, .inUse)]
      (.done (s.setTarget t {}))

/-- A duty of the target has its Catch-up pending set (R97). -/
def State.catchUpPending (s : State) (t : TargetIx) : Bool :=
  allDuties.any fun d => s.names t d && (s.duty d).catchUp

/-- HOLD TARGET (R97). -/
def answerHoldTarget (s : State) : Answer :=
  withTarget (stagedIndex s.port.latched) fun t =>
    let x := s.target t
    .checked [(x.holdState ≠ .active, .state), (s.catchUpPending t, .catchUp)]
      (.done ((s.setTarget t
        { x with holdState := .entering, holdTransaction := .entryPending, holdAttempts := 0, releasePending := false }).looksAfter
          s [x.defn.lane]))

/-- The target after a RELEASE TARGET that its hold state accepts (R102). -/
def releasedTarget (x : Target) : Target :=
  match x.holdState with
  | .entering =>
    if x.holdTransaction = .entryInFlight then { x with releasePending := true }
    else { x with holdState := .active, holdTransaction := .none }
  | .held => releasedFromHeld x
  | .stranded =>
    { x with holdState := .leaving, holdTransaction := .exitPending, holdAttempts := 0, deadlineKind := .none, deadline := none }
  | .undefined => x
  | .active => x
  | .leaving => x
  | .settling => x

/-- RELEASE TARGET (R101, R102). -/
def answerReleaseTarget (s : State) : Answer :=
  withTarget (stagedIndex s.port.latched) fun t =>
    let x := s.target t
    .checked [(x.holdState ≠ .entering && x.holdState ≠ .held && x.holdState ≠ .stranded, .state)]
      (.done ((s.setTarget t (releasedTarget x)).looksAfter s
        (if x.holdTransaction = .entryInFlight then [] else [x.defn.lane])))

/-- SNAPSHOT TARGET (R111). -/
def answerSnapshotTarget (s : State) : Answer :=
  withTarget (stagedIndex s.port.latched) fun t =>
    .done { s with port := { s.port with snapshot := targetSnapshot t (s.target t) (s.namingCount t) (s.catchUpCount t) } }

end Sys2Proof.Machine
end

