-- ==== Sys2Proof/Machine/PortCommands.lean ====
section
/-! DEFINITION. The command port: taking a code, collisions, results, ABORT and SCHEDULER RESET, and the meanings of the rows
that are codes of COMMAND (chapter 9). -/

namespace Sys2Proof.Machine

/-- A command is taken: the staging area is copied into the latched parameters, and Current code is the code (R164, R165). -/
def State.latch (s : State) (code : Byte) : State :=
  { s with port := { s.port with latched := s.port.staging, code := code } }

/-- A code discarded in WORKING leaves no trace but Collision (R169). -/
def State.discardCode (s : State) : State := { s with port := { s.port with collision := true } }

/-- The port after the owner's answer to a command taken in `taken` (R164 step 6, R166, R167). -/
def State.conclude (taken : State) : Answer → State
  | .done s => s.recordResult .done
  | .refused r => taken.recordResult r
  | .waits s => { s with port := { s.port with state := .working } }

/-- A write of an assigned code, other than ABORT and SCHEDULER RESET, to COMMAND: discarded in WORKING (R169), otherwise taken,
passed to its owner and its result recorded (R164). -/
def State.command (s : State) (code : Byte) (owner : State → Answer) : State :=
  if s.port.state = .working then s.discardCode else (s.latch code).conclude (owner (s.latch code))

/-- The duty whose RETIRE DUTY waits: the Index latched when it was taken (R165; DEDUCED, log 15). -/
def State.waitingDuty (s : State) : DutyIx := Fin.ofNat 64 (stagedIndex s.port.latched)

/-- ABORT: in WORKING it ends the waiting RETIRE DUTY with ABORTED (R16, R171); in READY it is TOO-LATE (R172). -/
def State.abort (s : State) : State :=
  let taken := s.latch 0x30
  if s.port.state = .working then
    (taken.setDuty s.waitingDuty { taken.duty s.waitingDuty with retirePending := false }).recordResult .aborted
  else taken.recordResult .tooLate

/-- A hold transaction of the target is in flight. -/
def Target.holdInFlight (x : Target) : Bool :=
  x.holdTransaction = .entryInFlight || x.holdTransaction = .exitInFlight

/-- A target after SCHEDULER RESET (R113, Table 5-5). -/
def schedulerResetTarget (x : Target) : Target :=
  let y : Target := { x with releasePending := false }
  if x.holdInFlight then strandedTarget y
  else if x.holdState = .entering then { y with holdState := .active, holdTransaction := .none, holdAttempts := 0 }
  else y

/-- A lane after SCHEDULER RESET (R141). -/
def schedulerResetLane (x : Lane) : Lane := { closedLane x with integrityCount := 0 }

/-- Every duty VACANT, every list empty, every lock FREE and every record absent (R22, R47, R60, R87). -/
def State.emptySchedule (s : State) : State :=
  { s with
    duties := Vector.replicate 64 {}
    lists := Vector.replicate 4 []
    locks := Vector.replicate 8 none
    records := Vector.replicate 4 none }

/-- The targets by Table 5-5. -/
def State.resetTargets (s : State) : State :=
  allTargets.foldl (fun acc t => acc.setTarget t (schedulerResetTarget (acc.target t))) s

/-- Every lane closed, with its configuration kept and its count 0 (R141). -/
def State.resetLanes (s : State) : State :=
  allLanes.foldl (fun acc l => acc.setLane l (schedulerResetLane (acc.lane l))) s

/-- The targets whose hold transactions a reset abandons, in order of Index (R114). -/
def State.holdsInFlight (s : State) : List TargetIx := allTargets.filter fun t => (s.target t).holdInFlight

/-- The STRANDED incidents of a reset, in order of target Index, and the HOLD cause (R114, R162 step 3). -/
def State.recordStranded (s : State) (ts : List TargetIx) : State :=
  ts.foldl (fun acc t => (acc.passIncident (abandonedIncident acc t)).setHoldCause) s

/-- SCHEDULER RESET, in READY and in WORKING alike (R173, R174, Table 9-5). -/
def State.schedulerReset (s : State) : State :=
  let taken := s.latch 0x31
  let emptied := taken.emptySchedule.resetTargets.resetLanes
  let cleared : State := { emptied with inc := emptied.inc.schedulerReset }
  (cleared.recordStranded s.holdsInFlight).recordResult .done

/-- An unassigned code: UNKNOWN in READY (R164 step 3, R166), discarded in WORKING (R169). -/
def State.unknown (s : State) (code : Byte) : State :=
  if s.port.state = .working then s.discardCode else (s.latch code).recordResult .unknown

/-- A write of a code to COMMAND (R164, R169, R171, R173), by Table 10-3. -/
def State.writeCommand (s : State) (code : Byte) : State :=
  match code.toNat with
  | 0x01 => s.command 0x01 answerDefineDuty
  | 0x02 => s.command 0x02 answerStartDuty
  | 0x03 => s.command 0x03 answerStopDuty
  | 0x04 => s.command 0x04 answerRetireDuty
  | 0x05 => s.command 0x05 answerReviveDuty
  | 0x06 => s.command 0x06 answerSetOwed
  | 0x07 => s.command 0x07 answerProdDuty
  | 0x08 => s.command 0x08 answerSnapshotDuty
  | 0x10 => s.command 0x10 answerDefineTarget
  | 0x11 => s.command 0x11 answerDropTarget
  | 0x12 => s.command 0x12 answerHoldTarget
  | 0x13 => s.command 0x13 answerReleaseTarget
  | 0x14 => s.command 0x14 answerSnapshotTarget
  | 0x20 => s.command 0x20 answerConfigureLane
  | 0x21 => s.command 0x21 answerOpenLane
  | 0x22 => s.command 0x22 answerCloseLane
  | 0x23 => s.command 0x23 answerBlackoutLane
  | 0x24 => s.command 0x24 answerResumeLane
  | 0x25 => s.command 0x25 answerClearSuspect
  | 0x30 => s.abort
  | 0x31 => s.schedulerReset
  | _ => s.unknown code

-- The meanings of the rows

/-- Command 0x01 (R6, R7). -/
def execDefineDuty (s : State) : Host.Outcome State Fault Refusal := .next (s.command 0x01 answerDefineDuty)

/-- Command 0x02 (R8, R9). -/
def execStartDuty (s : State) : Host.Outcome State Fault Refusal := .next (s.command 0x02 answerStartDuty)

/-- Command 0x03 (R11). -/
def execStopDuty (s : State) : Host.Outcome State Fault Refusal := .next (s.command 0x03 answerStopDuty)

/-- Command 0x04 (R14, R15, R167). -/
def execRetireDuty (s : State) : Host.Outcome State Fault Refusal := .next (s.command 0x04 answerRetireDuty)

/-- Command 0x05 (R18). -/
def execReviveDuty (s : State) : Host.Outcome State Fault Refusal := .next (s.command 0x05 answerReviveDuty)

/-- Command 0x06 (R40, R41). -/
def execSetOwed (s : State) : Host.Outcome State Fault Refusal := .next (s.command 0x06 answerSetOwed)

/-- Command 0x07 (R38). -/
def execProdDuty (s : State) : Host.Outcome State Fault Refusal := .next (s.command 0x07 answerProdDuty)

/-- Command 0x08 (R19, R20, R176). -/
def execSnapshotDuty (s : State) : Host.Outcome State Fault Refusal := .next (s.command 0x08 answerSnapshotDuty)

/-- Command 0x10 (R93, R94). -/
def execDefineTarget (s : State) : Host.Outcome State Fault Refusal := .next (s.command 0x10 answerDefineTarget)

/-- Command 0x11 (R95). -/
def execDropTarget (s : State) : Host.Outcome State Fault Refusal := .next (s.command 0x11 answerDropTarget)

/-- Command 0x12 (R97). -/
def execHoldTarget (s : State) : Host.Outcome State Fault Refusal := .next (s.command 0x12 answerHoldTarget)

/-- Command 0x13 (R101, R102). -/
def execReleaseTarget (s : State) : Host.Outcome State Fault Refusal := .next (s.command 0x13 answerReleaseTarget)

/-- Command 0x14 (R111, R176). -/
def execSnapshotTarget (s : State) : Host.Outcome State Fault Refusal := .next (s.command 0x14 answerSnapshotTarget)

/-- Command 0x20 (R117). -/
def execConfigureLane (s : State) : Host.Outcome State Fault Refusal := .next (s.command 0x20 answerConfigureLane)

/-- Command 0x21 (R119). -/
def execOpenLane (s : State) : Host.Outcome State Fault Refusal := .next (s.command 0x21 answerOpenLane)

/-- Command 0x22 (R121). -/
def execCloseLane (s : State) : Host.Outcome State Fault Refusal := .next (s.command 0x22 answerCloseLane)

/-- Command 0x23 (R122). -/
def execBlackoutLane (s : State) : Host.Outcome State Fault Refusal := .next (s.command 0x23 answerBlackoutLane)

/-- Command 0x24 (R123). -/
def execResumeLane (s : State) : Host.Outcome State Fault Refusal := .next (s.command 0x24 answerResumeLane)

/-- Command 0x25 (R129). -/
def execClearSuspect (s : State) : Host.Outcome State Fault Refusal := .next (s.command 0x25 answerClearSuspect)

/-- Command 0x30 (R171, R172). -/
def execAbort (s : State) : Host.Outcome State Fault Refusal := .next s.abort

/-- Command 0x31 (R173, R174). -/
def execSchedulerReset (s : State) : Host.Outcome State Fault Refusal := .next s.schedulerReset

/-- An unassigned code written to COMMAND (R166, R169). An assigned code here runs as the write of that code (log 6). -/
def execUnknownCode (code : Byte) (s : State) : Host.Outcome State Fault Refusal := .next (s.writeCommand code)

/-- A code written to COMMAND while the port is WORKING (R169). With the port READY, or with ABORT or SCHEDULER RESET, it runs
as the write of that code (R164, R171, R173; log 6). -/
def execCommandDiscarded (code : Byte) (s : State) : Host.Outcome State Fault Refusal := .next (s.writeCommand code)

end Sys2Proof.Machine
end

