-- ==== Sys2Proof/Machine/Registers.lean ====
section
/-! DEFINITION. The register window: what a write and a read of each location do (R177), and the row that a write is. -/

namespace Sys2Proof.Machine

/-- A write to a staging word (R165). -/
def State.writeStaging (s : State) (n : Nat) (v : Word) : State :=
  if h : n < 32 then { s with port := { s.port with staging := s.port.staging.set n v h } } else s

/-- A write of any value to PORT_CLEAR clears Collision (R170). -/
def State.clearCollision (s : State) : State := { s with port := { s.port with collision := false } }

/-- A write of any value to INCIDENT_POP (R156). -/
def State.popIncident (s : State) : State := { s with inc := s.inc.pop }

/-- A write to EVENT_SUMMARY (R158). -/
def State.writeSummary (s : State) (v : Word) : State := { s with inc := s.inc.writeSummary v }

/-- A write to EVENT_ENABLE (R160). -/
def State.writeEnable (s : State) (v : Word) : State := { s with inc := s.inc.writeEnable v }

/-- A write to TRIM_VALUE (R145). -/
def State.writeTrim (s : State) (v : Word) : State := { s with time := s.time.writeTrim v }

/-- A write to TRIM_WINDOW (R145). -/
def State.writeWindow (s : State) (v : Word) : State := { s with time := s.time.writeWindow v }

/-- A write of `v` at the word address `reg`, that is at byte offset 2 * reg (R177, Table 10-1): unmapped offsets and read-only
registers ignore it. -/
def State.busWrite (s : State) (reg : BitVec 7) (v : Word) : State :=
  let offset := 2 * reg.toNat
  if offset = 0x02 then s.writeCommand (lowByte v)
  else if offset = 0x04 then s.clearCollision
  else if 0x10 ≤ offset ∧ offset ≤ 0x4E then s.writeStaging ((offset - 0x10) / 2) v
  else if offset = 0x8E then s.popIncident
  else if offset = 0x90 then s.writeSummary v
  else if offset = 0x92 then s.writeEnable v
  else if offset = 0xA6 then s.writeTrim v
  else if offset = 0xA8 then s.writeWindow v
  else s

/-- What a read at the word address `reg` returns (R177, Table 10-1): 0 at unmapped offsets and write-only registers. Only a
read of EPOCH_LO changes the part (R147): its row is EPOCH_LO_READ. -/
def State.busReads (s : State) (reg : BitVec 7) : Word :=
  let offset := 2 * reg.toNat
  if offset = 0x00 then s.port.status
  else if 0x10 ≤ offset ∧ offset ≤ 0x4E then s.port.staging.toList.getD ((offset - 0x10) / 2) 0
  else if 0x50 ≤ offset ∧ offset ≤ 0x6E then s.port.snapshot.words.toList.getD ((offset - 0x50) / 2) 0
  else if 0x70 ≤ offset ∧ offset ≤ 0x8A then s.incidentWindow ((offset - 0x70) / 2)
  else if offset = 0x8C then fieldAt s.inc.queue.length 0
  else if offset = 0x90 then s.inc.summary.toWord
  else if offset = 0x92 then s.inc.enable.toWord
  else if offset = 0xA0 then epochWord s.time.epoch 0
  else if offset = 0xA2 then s.time.latchMid
  else if offset = 0xA4 then s.time.latchHi
  else if offset = 0xA6 then BitVec.ofInt 16 s.time.writtenTrim
  else if offset = 0xA8 then s.time.writtenWindow.code
  else if offset = 0xB0 then (s.lane 0).status
  else if offset = 0xB2 then (s.lane 1).status
  else if offset = 0xB4 then (s.lane 2).status
  else if offset = 0xB6 then (s.lane 3).status
  else 0

/-- The row that a write of a code to COMMAND is, as the port stands (R164, R166, R169). -/
def State.rowOfCode (s : State) (code : Byte) : Instr :=
  match commandOfCode code with
  | some .abort => .abort
  | some .schedulerReset => .schedulerReset
  | some i => if s.port.state = .working then .commandDiscarded code else i
  | none => if s.port.state = .working then .commandDiscarded code else .unknownCode code

/-- The row of the table that a write on the bus is. -/
def State.rowOfWrite (s : State) (reg : BitVec 7) (v : Word) : Instr :=
  match reg.toNat with
  | 0x01 => s.rowOfCode (lowByte v)
  | 0x02 => .portClear v
  | 0x47 => .incidentPop v
  | 0x48 => .eventSummaryWrite v
  | 0x49 => .eventEnableWrite v
  | 0x53 => .trimValueWrite v
  | 0x54 => .trimWindowWrite v
  | _ => .registerWrite reg v

-- The meanings of the rows

/-- PORT_CLEAR (R170). -/
def execPortClear (_value : Word) (s : State) : Host.Outcome State Fault Refusal := .next s.clearCollision

/-- INCIDENT_POP (R156, R185). -/
def execIncidentPop (_value : Word) (s : State) : Host.Outcome State Fault Refusal := .next s.popIncident

/-- A write to EVENT_SUMMARY (R157, R158, R179). -/
def execEventSummaryWrite (value : Word) (s : State) : Host.Outcome State Fault Refusal := .next (s.writeSummary value)

/-- A write to EVENT_ENABLE (R160, R179). -/
def execEventEnableWrite (value : Word) (s : State) : Host.Outcome State Fault Refusal := .next (s.writeEnable value)

/-- A write to TRIM_VALUE (R145, R179). -/
def execTrimValueWrite (value : Word) (s : State) : Host.Outcome State Fault Refusal := .next (s.writeTrim value)

/-- A write to TRIM_WINDOW (R145, R179). -/
def execTrimWindowWrite (value : Word) (s : State) : Host.Outcome State Fault Refusal := .next (s.writeWindow value)

/-- A read of EPOCH_LO returns bits 15..0 of the epoch and latches the other parts (R147). -/
def execEpochLoRead (s : State) : Host.Outcome State Fault Refusal :=
  .next { s with busRead := epochWord s.time.epoch 0, time := s.time.latchEpoch }

/-- A write to any other register: a staging word is stored, any other write is ignored (R165, R177). -/
def execRegisterWrite (reg : BitVec 7) (value : Word) (s : State) : Host.Outcome State Fault Refusal :=
  .next (s.busWrite reg value)

end Sys2Proof.Machine
end

