-- ==== Sys2Proof/Machine/Resets.lean ====
section
/-! DEFINITION. RESET and power-on (01 R21, 03 R47, R60, 04 R87, 05 R112, 06 R115, R140, 07 R149, 08 R161, 09 R163). -/

namespace Sys2Proof.Machine

/-- A lane after RESET: every field of Table 6-1 at its reset value and the pins released; the clock line is an input and stays
as the target drives it (R115, R140; log 9). -/
def resetLane (x : Lane) : Lane := { lineHeld := x.lineHeld }

/-- Every block but the time base at its reset values (R21, R47, R60, R87, R112, R115, R161, R163); the time base and the
always-on latch are kept (R149). -/
def State.resetPin (s : State) : State :=
  { State.reset with
    lanes := s.lanes.map resetLane
    time := s.time
    busRead := s.busRead
    pending := s.pending }

/-- RESET: an assertion of the RESET pin. -/
def execReset (s : State) : Host.Outcome State Fault Refusal := .next s.resetPin

/-- Power-on: RESET's values, and the time base of R149. -/
def execPowerOn (s : State) : Host.Outcome State Fault Refusal :=
  .next { s.resetPin with time := {}, busRead := 0 }

end Sys2Proof.Machine
end

