-- ==== Sys2Proof/Machine/TimeEvents.lean ====
section
/-! DEFINITION. The commands of the time base: a REFCLK cycle, and the cycles that complete a tick, start a window or end a part
(chapter 7). -/

namespace Sys2Proof.Machine

/-- A tick has begun: a lane that waits between two status reads may read again (R133, R136; log 7). A hold of an ADDRESSED
lane's clock line keeps the stop of its PENDING from being done, and the tick does not begin after that stop (R136, R139). -/
def State.markTick (s : State) : State :=
  { s with
    records := Vector.ofFn fun i : LaneIx =>
      if (s.lane i).clockHeld then s.record i else (s.record i).map fun r => { r with tickSinceRead := true } }

/-- One REFCLK cycle (R142 to R144, R146). It touches no block but the time base (R150), apart from the mark that a tick has
begun. -/
def State.refclkCycle (s : State) : State :=
  let s1 : State := { s with time := s.time.cycle }
  if s.time.completesTick then s1.markTick else s1

/-- A REFCLK cycle, whatever comes about at it (R142). -/
def execRefclkCycle (s : State) : Host.Outcome State Fault Refusal := .next s.refclkCycle

/-- The REFCLK cycle at which the divider phase reaches the tick length (R142, R146). With a tick that the cycle to come does
not complete, nothing happens (log 3, log 5). -/
def execTickCompletion (s : State) : Host.Outcome State Fault Refusal :=
  .next (if s.time.completesTick then s.refclkCycle else s)

/-- The REFCLK cycle at which a trim window starts (R143; log 3, log 5). -/
def execWindowStart (s : State) : Host.Outcome State Fault Refusal :=
  .next (if s.time.startsWindow then s.refclkCycle else s)

/-- The REFCLK cycle that is the last of a part (R144; log 3, log 5). -/
def execPartEnd (s : State) : Host.Outcome State Fault Refusal :=
  .next (if s.time.endsPart then s.refclkCycle else s)

end Sys2Proof.Machine
end

