-- ==== Sys2Proof/Machine/Dispatch.lean ====
section
/-! DEFINITION. The meaning of each command: one arm a row. -/

namespace Sys2Proof.Machine

def exec (i : Instr) (s : State) : Host.Outcome State Fault Refusal :=
  match i with
  | .defineDuty => Sys2Proof.Machine.execDefineDuty s
  | .startDuty => Sys2Proof.Machine.execStartDuty s
  | .stopDuty => Sys2Proof.Machine.execStopDuty s
  | .retireDuty => Sys2Proof.Machine.execRetireDuty s
  | .reviveDuty => Sys2Proof.Machine.execReviveDuty s
  | .setOwed => Sys2Proof.Machine.execSetOwed s
  | .prodDuty => Sys2Proof.Machine.execProdDuty s
  | .snapshotDuty => Sys2Proof.Machine.execSnapshotDuty s
  | .defineTarget => Sys2Proof.Machine.execDefineTarget s
  | .dropTarget => Sys2Proof.Machine.execDropTarget s
  | .holdTarget => Sys2Proof.Machine.execHoldTarget s
  | .releaseTarget => Sys2Proof.Machine.execReleaseTarget s
  | .snapshotTarget => Sys2Proof.Machine.execSnapshotTarget s
  | .configureLane => Sys2Proof.Machine.execConfigureLane s
  | .openLane => Sys2Proof.Machine.execOpenLane s
  | .closeLane => Sys2Proof.Machine.execCloseLane s
  | .blackoutLane => Sys2Proof.Machine.execBlackoutLane s
  | .resumeLane => Sys2Proof.Machine.execResumeLane s
  | .clearSuspect => Sys2Proof.Machine.execClearSuspect s
  | .abort => Sys2Proof.Machine.execAbort s
  | .schedulerReset => Sys2Proof.Machine.execSchedulerReset s
  | .unknownCode code => Sys2Proof.Machine.execUnknownCode code s
  | .commandDiscarded code => Sys2Proof.Machine.execCommandDiscarded code s
  | .portClear value => Sys2Proof.Machine.execPortClear value s
  | .incidentPop value => Sys2Proof.Machine.execIncidentPop value s
  | .eventSummaryWrite value => Sys2Proof.Machine.execEventSummaryWrite value s
  | .eventEnableWrite value => Sys2Proof.Machine.execEventEnableWrite value s
  | .trimValueWrite value => Sys2Proof.Machine.execTrimValueWrite value s
  | .trimWindowWrite value => Sys2Proof.Machine.execTrimWindowWrite value s
  | .epochLoRead => Sys2Proof.Machine.execEpochLoRead s
  | .registerWrite reg value => Sys2Proof.Machine.execRegisterWrite reg value s
  | .reset => Sys2Proof.Machine.execReset s
  | .powerOn => Sys2Proof.Machine.execPowerOn s
  | .tickCompletion => Sys2Proof.Machine.execTickCompletion s
  | .windowStart => Sys2Proof.Machine.execWindowStart s
  | .partEnd => Sys2Proof.Machine.execPartEnd s
  | .boundary duty => Sys2Proof.Machine.execBoundary duty s
  | .startTime duty => Sys2Proof.Machine.execStartTime duty s
  | .stopTime duty => Sys2Proof.Machine.execStopTime duty s
  | .backoffEnd duty => Sys2Proof.Machine.execBackoffEnd duty s
  | .responseDeadline lane => Sys2Proof.Machine.execResponseDeadline lane s
  | .quietEnd lane => Sys2Proof.Machine.execQuietEnd lane s
  | .blackoutEnd lane => Sys2Proof.Machine.execBlackoutEnd lane s
  | .autoResume lane => Sys2Proof.Machine.execAutoResume lane s
  | .minimumHoldEnd target => Sys2Proof.Machine.execMinimumHoldEnd target s
  | .maximumHoldEnd target => Sys2Proof.Machine.execMaximumHoldEnd target s
  | .settleEnd target => Sys2Proof.Machine.execSettleEnd target s
  | .statusRead lane value => Sys2Proof.Machine.execStatusRead lane value s
  | .dataByte lane value => Sys2Proof.Machine.execDataByte lane value s
  | .checkByte lane value => Sys2Proof.Machine.execCheckByte lane value s
  | .addressNotAcknowledged lane => Sys2Proof.Machine.execAddressNotAcknowledged lane s
  | .requestByteRefused lane => Sys2Proof.Machine.execRequestByteRefused lane s
  | .clockLineHold lane => Sys2Proof.Machine.execClockLineHold lane s
  | .clockLineRelease lane => Sys2Proof.Machine.execClockLineRelease lane s
  | .refclkCycle => Sys2Proof.Machine.execRefclkCycle s

end Sys2Proof.Machine
end

