-- ==== Sys2Proof/Machine/Link.lean ====
section
/-! DEFINITION. What the part puts on a lane's link: its share of the read phases, its acknowledge of each byte that the target
sends, and the ends of frames (06 R132 to R136, R139, R140). It is read off the state before an event and the event, and no
field holds it (log 21). -/

namespace Sys2Proof.Machine

/-- The Address to which a record's frame goes. -/
def State.addressOf (s : State) (r : InFlight) : Byte := (s.target r.target).defn.address

/-- The stop that follows a PENDING on an ADDRESSED lane, while the transaction goes on (R136). It is given with the first report
after the PENDING, since a hold of the clock line can keep it waiting (R139; log 21). -/
def pendingStop (mode : LaneMode) (r : InFlight) : List Symbol :=
  match mode, r.phase with
  | .addressed, .wait => [.stop, .idleBit]
  | _, _ => []

/-- How the frame or the read phase of a status byte begins: in REQUEST with the request, which an ADDRESSED lane follows with a
repeated start, and in WAIT, on an ADDRESSED lane, with a fresh start (R133, R136). -/
def State.opening (s : State) (l : LaneIx) (r : InFlight) : List Symbol :=
  match (s.lane l).mode, r.phase with
  | .select, .request => s.requestFrame l
  | .select, _ => []
  | .addressed, .request => s.requestFrame l ++ readPhase true (s.addressOf r)
  | .addressed, _ => readPhase false (s.addressOf r)

/-- What comes before a status byte, from the report before (R133, R136). -/
def State.beforeStatus (s : State) (l : LaneIx) (r : InFlight) : List Symbol :=
  pendingStop (s.lane l).mode r ++ s.opening l r

/-- A status of DONE, BUSY or ERROR, after which the lane reads on (R70). -/
def movesToResponse (value : Byte) : Bool := value = 0x61 || value = 0x62 || value = 0x63

/-- A status that ends the frame: every one but DONE, BUSY, ERROR and a PENDING with which the transaction goes on. A first
PENDING ends it when the deadline has passed (R71, R133, R136). -/
def endsReading (r : InFlight) (value : Byte) : Bool :=
  !movesToResponse value && (value ≠ 0x00 || r.phase = .request && r.deadlinePassed)

/-- The part's share of a status read, from the end of what it sent before (R133, R136). -/
def State.sentWithStatus (s : State) (l : LaneIx) (r : InFlight) (value : Byte) : List Symbol :=
  let mode := (s.lane l).mode
  s.beforeStatus l r ++ readByte mode (movesToResponse value) ++
    if endsReading r value then frameEnd mode (s.addressOf r) else []

/-- The part's share of a data byte, which it acknowledges (R136). -/
def State.sentWithData (s : State) (l : LaneIx) : List Symbol := readByte (s.lane l).mode true

/-- The part's share of the check byte, which it leaves unacknowledged, and the end of the frame (R133, R136). -/
def State.sentWithCheck (s : State) (l : LaneIx) (r : InFlight) : List Symbol :=
  readByte (s.lane l).mode false ++ frameEnd (s.lane l).mode (s.addressOf r)

/-- The row that the lane reports of the eight bits it has sampled, on LnDI or on the data line: a data byte while data is
awaited, then the check byte, and a status byte where one may be read (R70, R133, R136). -/
def State.reportOf (s : State) (l : LaneIx) (samples : List Bool) : Option Instr :=
  (s.movingRecord l).bind fun r =>
    let value := (s.lane l).byteRead samples
    if s.awaitsData r then some (.dataByte l value)
    else if s.awaitsCheck r then some (.checkByte l value)
    else if mayReadStatus r then some (.statusRead l value)
    else none

/-- What the part sends up to an address byte that goes unacknowledged, and the stop: in REQUEST that of the write phase or that
of the first read phase, in WAIT that of a repeated read phase (R135, R136; log 16). -/
def State.sentUnanswered (s : State) (l : LaneIx) (r : InFlight) : List (List Symbol) :=
  let stop := frameEnd .addressed (s.addressOf r)
  match r.phase with
  | .request => [addressedRequest (s.addressOf r) [] ++ stop, s.beforeStatus l r ++ stop]
  | _ => [s.beforeStatus l r ++ stop]

/-- What the part sends up to a refused request byte, for each byte that can be it: the bytes after it are not sent (R135). -/
def State.sentRefused (s : State) (r : InFlight) : List (List Symbol) :=
  let bytes := s.requestOf r
  (List.range bytes.length).map fun k =>
    addressedRequest (s.addressOf r) (bytes.take (k + 1)) ++ frameEnd .addressed (s.addressOf r)

/-- The lane waits for a tick between two status reads (R133, R136). -/
def awaitsTick (r : InFlight) : Bool := r.phase = .wait && !r.tickSinceRead

/-- The symbols under way in the frame of a record that waits for no tick, to the end of the byte that it reads next (R133,
R136). -/
def State.underWay (s : State) (l : LaneIx) (r : InFlight) : List Symbol :=
  (if r.phase = .response then [] else s.opening l r) ++ List.replicate 8 .sample

/-- The link of an ADDRESSED lane is idle with this much of a frame's symbols sent: before its first start condition, and
between two read phases (R136). -/
def linkIdle (mode : LaneMode) (r : InFlight) (sent : List Symbol) : Bool :=
  mode = .addressed && r.phase ≠ .response && sent.isEmpty

/-- What the part sends of a frame that is cut off where it stands, for each place where it can stand: then it ends the frame,
but for a link that is idle (log 20). Between two status reads the end of the frame is the select line's, or the PENDING's own
stop. With the clock line held it forms no stop now (R139, R140), and behind a stop that waits on a held line nothing of the
frame has been sent (R139). -/
def State.sentCutOff (s : State) (l : LaneIx) (r : InFlight) : List (List Symbol) :=
  let x := s.lane l
  let ending := if x.clockHeld then [] else frameEnd x.mode (s.addressOf r)
  if x.stopWaiting then [[]]
  else if awaitsTick r then [ending]
  else (s.underWay l r).inits.map fun sent =>
    pendingStop x.mode r ++ sent ++ if linkIdle x.mode r sent then [] else ending

/-- What the part sends on the lane's link when CLOSE LANE or SCHEDULER RESET abandons its transaction (R139, R140). -/
def State.sentAbandoned (s : State) (l : LaneIx) : List (List Symbol) :=
  match s.record l with
  | some r => s.sentCutOff l r
  | none => [[]]

/-- What the part has sent on the lane's link, since the report before, when RESET or power-on releases its pins: where a frame
stands, it stays, with no stop (R140). -/
def State.sentAtRelease (s : State) (l : LaneIx) : List (List Symbol) :=
  match s.record l with
  | none => [[]]
  | some r =>
    let before := pendingStop (s.lane l).mode r
    if (s.lane l).stopWaiting then [[]]
    else if awaitsTick r then if (s.lane l).clockHeld then [[]] else before.inits
    else (s.underWay l r).inits.map (before ++ ·)

/-- The sequences of symbols, one of which the part has put on the lane's link at a report of the link, since the report before.
A report that the state does not admit sends nothing. -/
def State.sends (s : State) : Instr → List (List Symbol)
  | .statusRead l value =>
    match (s.movingRecord l).filter mayReadStatus with
    | some r => [s.sentWithStatus l r value]
    | none => [[]]
  | .dataByte l _ =>
    match (s.movingRecord l).filter s.awaitsData with
    | some _ => [s.sentWithData l]
    | none => [[]]
  | .checkByte l _ =>
    match (s.movingRecord l).filter s.awaitsCheck with
    | some r => [s.sentWithCheck l r]
    | none => [[]]
  | .addressNotAcknowledged l =>
    match (s.movingRecord l).filter (s.lane l).mayMissAddress with
    | some r => s.sentUnanswered l r
    | none => [[]]
  | .requestByteRefused l =>
    match (s.movingRecord l).filter (s.lane l).mayRefuseByte with
    | some r => s.sentRefused r
    | none => [[]]
  | .responseDeadline l =>
    match s.responseDue l with
    | some r => if deadlineAct (s.lane l) r = .timeout then s.sentCutOff l r else [[]]
    | none => [[]]
  | .clockLineHold l =>
    let s1 := s.setLane l { s.lane l with lineHeld := true }
    match s1.holdEnds l with
    | some r => if (s1.lane l).clockHeld then s1.sentCutOff l r else [[]]
    | none => [[]]
  | .clockLineRelease l => [if (s.lane l).stopWaiting then frameEnd .addressed 0 else []]
  | _ => [[]]

end Sys2Proof.Machine
end

