-- ==== Sys2Proof/Safety.lean ====
section
/-! DEFINITION. What holds of the block between commands, and what a look may change: the predicates that the statements about
commands are written in. -/

namespace Sys2Proof.Machine

-- What the looks of one event may change (R53 to R58)

/-- A duty across the looks of one event: as it was, or issued, its ticket removed and In flight set (R58). -/
def Duty.looked (a b : Duty) : Prop :=
  b = a ∨ b = { a with ticket := false, inFlight := true }

/-- A target across the looks of one event: as it was, or its pending hold transaction issued (R58, R98). -/
def Target.looked (a b : Target) : Prop :=
  b = a ∨ (a.holdTransaction = .entryPending ∧ b = { a with holdTransaction := .entryInFlight }) ∨
    (a.holdTransaction = .exitPending ∧ b = { a with holdTransaction := .exitInFlight })

/-- A lane across the looks of one event: as it was, or one that could issue and is now BUSY (R53, R58). -/
def Lane.looked (a b : Lane) : Prop :=
  b = a ∨ (a.gate = .opened ∧ a.activity = .idle ∧ b = { a with activity := .busy, pins := b.pins })

/-- A share lock across the looks of one event: as it was, or FREE before and HELD now (R57, R61). -/
def lockLooked (a b : Option DutyIx) : Prop := b = a ∨ a = none

/-- A lane's in-flight record across the looks of one event at the lane `x` at epoch `now`: as it was, or the record of a
transaction issued now (R69). -/
def recordLooked (x : Lane) (now : Epoch) (a b : Option InFlight) : Prop :=
  b = a ∨
    (x.gate = .opened ∧ x.activity = .idle ∧
      ∃ r, b = some r ∧ r.issueEpoch = now ∧ r.phase = .request ∧ r.deadlinePassed = false ∧ r.status = none ∧ r.data = [])

/-- `t` is `x` after the looks of one event: nothing but issues has happened, and where no lane could issue nothing has. -/
def Looked (x t : State) : Prop :=
  (∀ d, (x.duty d).looked (t.duty d)) ∧ (∀ g, (x.target g).looked (t.target g)) ∧ (∀ l, (x.lane l).looked (t.lane l)) ∧
    (∀ l, (t.list l).Sublist (x.list l)) ∧ (∀ g, lockLooked (x.lock g) (t.lock g)) ∧
    (∀ l, recordLooked (x.lane l) x.now (x.record l) (t.record l)) ∧ t.time = x.time ∧ t.inc = x.inc ∧ t.port = x.port ∧
    t.busRead = x.busRead ∧ t.pending = x.pending ∧ ((∀ l, x.mayIssue l = false) → t = x)

-- What a look considers, by fields (R48 to R51, R54, R56)

/-- The duty is eligible by its target, by its backoff and by its lock as it stands (R49 to R51). -/
def State.eligibleByFields (s : State) (d : DutyIx) : Prop :=
  ((s.targetOf d).holdState = .active ∨ ((s.targetOf d).holdState = .settling ∧ (s.duty d).defn.settleSafe = true)) ∧
    (∀ e, (s.duty d).backoffUntil = some e → e.toNat ≤ s.now.toNat) ∧
    ∀ k : LockIx, (s.duty d).defn.shareGroup = k.val + 1 → s.lock k = none

/-- The exit of the target is one that a look at the lane may issue: it is pending, and a minimum hold end that is still to come
does not hold it back (R54, step 1). -/
def State.exitReadyByFields (s : State) (l : LaneIx) (g : TargetIx) : Prop :=
  (s.target g).defn.lane = l ∧ (s.target g).holdState = .leaving ∧ (s.target g).holdTransaction = .exitPending ∧
    ((s.target g).deadlineKind = .minimum → ∀ e, (s.target g).deadline = some e → e.toNat ≤ s.now.toNat)

/-- The entry of the target is one that a look at the lane may issue: it is pending, and no duty of the target is in flight
(R54, step 2). -/
def State.entryReadyByFields (s : State) (l : LaneIx) (g : TargetIx) : Prop :=
  (s.target g).defn.lane = l ∧ (s.target g).holdState = .entering ∧ (s.target g).holdTransaction = .entryPending ∧
    ∀ d, (s.duty d).state ≠ .vacant → (s.duty d).defn.target = g → (s.duty d).inFlight = false

/-- The duty is an advance candidate of the lane (R56). -/
def State.advanceByFields (s : State) (l : LaneIx) (d : DutyIx) : Prop :=
  (s.duty d).state = .running ∧ s.laneOf d = l ∧ (s.duty d).defn.advancePermitted = true ∧
    -((s.duty d).defn.advanceLimit : Int) + 1 ≤ (s.duty d).owed ∧ (s.duty d).owed ≤ 0 ∧ (s.duty d).ticket = false ∧
    (s.duty d).inFlight = false ∧ s.eligibleByFields d

-- Claims of the looks of one event (R57, R61)

/-- The share lock that a look at the lane claims for its first candidate: an exit or an entry, and a duty of Share group 0,
claims none (R54, R57). -/
def State.firstClaim (s : State) (l : LaneIx) : Option LockIx :=
  match s.choose l with
  | some (.duty d) => s.lockOf d
  | some (.exit _) => none
  | some (.entry _) => none
  | none => none

/-- The claim is refused, among those of the looks at `ls`: a lower-numbered of these lanes claims the same lock (R61). -/
def State.claimLost (s : State) (ls : List LaneIx) (l : LaneIx) : Bool :=
  (s.firstClaim l).any fun k => ls.any fun m => decide (m < l) && s.mayIssue m && decide (s.firstClaim m = some k)

/-- The first candidate of a look at the lane, as `s` shows it, is issued on `x`; without one nothing happens (R58). -/
def State.issueFirst (s x : State) (l : LaneIx) : State :=
  match s.choose l with
  | some c => x.issue l c
  | none => x

-- What one event may change, as the statements say it

/-- A command given through COMMAND completes with DONE: `x` is what it leaves before its looks, which are at the lanes `ls`, or
at every lane when it released a lock, and which only issue; its result is recorded last (R53, R166). -/
def doneFrom (c : Instr) (s x : State) (ls : List LaneIx) : Prop :=
  exec c s = .next ((x.looksAfter s ls).recordResult .done) ∧ Looked x (x.looksAfter s ls)

/-- An event leaves `x` before its looks, which are at the lanes `ls`, or at every lane when it released a lock, and which only
issue (R53). -/
def leaves (c : Instr) (s x : State) (ls : List LaneIx) : Prop :=
  exec c s = .next (x.looksAfter s ls) ∧ Looked x (x.looksAfter s ls)

/-- A command taken in READY is refused with a result: the latched parameters, the Current code, the Result and the COMMAND
cause are all that changes (R164 to R166). -/
def refuses (c : Instr) (code : Byte) (s : State) (why : CmdResult) : Prop :=
  exec c s = .next { s with
    port := { s.port with latched := s.port.staging, code := code, result := why }
    inc := s.inc.setCommand }

/-- `x` differs from `s` only in the duty `d`, in the lane `l` with its due list and its record, in the share locks, in the port
and in the incident unit. -/
def State.sameBeside (s x : State) (d : DutyIx) (l : LaneIx) : Prop :=
  (∀ e, e ≠ d → x.duty e = s.duty e) ∧ (∀ g, x.target g = s.target g) ∧
    (∀ j, j ≠ l → x.lane j = s.lane j ∧ x.list j = s.list j ∧ x.record j = s.record j) ∧ x.time = s.time ∧
    x.busRead = s.busRead ∧ x.pending = s.pending

/-- The duty `d` has the record `y`, offered a ticket at the tail of the list of its lane `l` (R42, R45). -/
def State.ticketOffered (s x : State) (d : DutyIx) (l : LaneIx) (y : Duty) : Prop :=
  x.duty d = y.offered ∧ x.list l = if y.getsTicket = true then s.list l ++ [d] else s.list l

/-- A pressed report reaches the lane, or none: a lane in BLACKOUT with Yield set opens and sets the LANE cause, and nothing
else comes of it (R32, R124). -/
def State.afterReport (s x : State) (l : LaneIx) (pressed : Prop) : Prop :=
  (pressed ∧ (s.lane l).gate = .blackout ∧ (s.lane l).yielding = true →
      x.lane l = { s.lane l with gate := .opened, blackoutEnd := none, yielding := false } ∧ x.inc = s.inc.setLane) ∧
    (¬(pressed ∧ (s.lane l).gate = .blackout ∧ (s.lane l).yielding = true) → x.lane l = s.lane l ∧ x.inc = s.inc)

/-- `x` is `s` with the record `y` for the duty `d`, which has been offered a ticket and, if it has become pressed, has reported
so to its lane. -/
def State.dutyChanged (s x : State) (d : DutyIx) (y : Duty) (pressed : Prop) : Prop :=
  s.sameBeside x d (s.laneOf d) ∧ s.ticketOffered x d (s.laneOf d) y ∧ s.afterReport x (s.laneOf d) pressed ∧
    x.record (s.laneOf d) = s.record (s.laneOf d) ∧ (∀ k, x.lock k = s.lock k) ∧ x.port = s.port

/-- The lane after the outcome of a duty with Quiet time `q`, its gate and count apart, and the locks (R62, R64): QUIET with the
lock kept, or IDLE with the lock released. -/
def State.lineFreed (s x : State) (l : LaneIx) (d : DutyIx) (q : Nat) : Prop :=
  x.record l = none ∧
    (0 < q → (x.lane l).activity = .quiet ∧ (x.lane l).quietEnd = some (satAdd s.now q) ∧ ∀ k, x.lock k = s.lock k) ∧
    (q = 0 → (x.lane l).activity = .idle ∧
      ∀ k, x.lock k = if s.lockOf d = some k ∧ s.lock k = some d then none else s.lock k)

/-- The configuration of a lane is kept (R115). -/
def Lane.sameConfig (a b : Lane) : Prop :=
  b.configured = a.configured ∧ b.mode = a.mode ∧ b.divider = a.divider ∧ b.bitOrder = a.bitOrder ∧
    b.polarityHigh = a.polarityHigh ∧ b.autoResume = a.autoResume ∧ b.recoveryTime = a.recoveryTime

/-- The lane `l` has the record `r` of a transaction of its duty `d`, for which no RETIRE DUTY waits. -/
def State.serves (s : State) (l : LaneIx) (r : InFlight) (d : DutyIx) : Prop :=
  s.record l = some r ∧ r.kind = .duty d ∧ s.laneOf d = l ∧ (s.duty d).retirePending = false

/-- The lane `l` has the record `r` of a transaction of its duty `d`, for which a RETIRE DUTY waits (R15). -/
def State.retires (s : State) (l : LaneIx) (r : InFlight) (d : DutyIx) : Prop :=
  s.record l = some r ∧ r.kind = .duty d ∧ s.laneOf d = l ∧ (s.duty d).retirePending = true

/-- The outcome of the duty `d`'s transaction on the lane `l` has been taken: the duty has the record `y` and was offered a
ticket, the line is freed, and the lane has this gate and this consecutive-integrity count (R64, R72, R75). -/
def State.outcomeTaken (s x : State) (l : LaneIx) (d : DutyIx) (y : Duty) (gate : Gate) (count : Nat) : Prop :=
  s.sameBeside x d l ∧ s.ticketOffered x d l y ∧ s.lineFreed x l d (s.duty d).defn.quietTime ∧ (x.lane l).gate = gate ∧
    (x.lane l).integrityCount = count ∧ (s.lane l).sameConfig (x.lane l) ∧ x.port = s.port

/-- The duty record after a failure that leaves its state (R79). -/
def Duty.afterFailure (x : Duty) (last : LastOutcome) : Duty :=
  { x with attempts := x.attempts + 1, busyCount := 0, backoffUntil := none, lastOutcome := last, inFlight := false }

/-- The duty record after a credited outcome that leaves Owed at `owed` (R33, R34, R76). -/
def Duty.afterCredit (x : Duty) (forcedMark : Bool) (owed : Int) (last : LastOutcome) : Duty :=
  { x with
    owed := owed, catchUp := false, forced := x.forced && !forcedMark
    overdue := x.overdue && decide ((x.defn.deferLimit : Int) < owed), completions := x.completions + 1, attempts := 0
    busyCount := 0, backoffUntil := none, lastOutcome := last, inFlight := false }

/-- Owed after a credited outcome (R33). -/
def Duty.owedAfterCredit (x : Duty) : Int :=
  if x.catchUp = true then x.owed else max (x.owed - 1) (-(x.defn.advanceLimit : Int))

/-- The duty `d` has been stopped, and nothing else has happened to the part but in the port (R11). -/
def State.stoppedAs (s x : State) (d : DutyIx) : Prop :=
  x.duty d = { s.duty d with
      state := .stopped, ticket := false, catchUp := false, forced := false, nextBoundary := none } ∧
    s.sameBeside x d (s.laneOf d) ∧ x.list (s.laneOf d) = (s.list (s.laneOf d)).filter (fun e => e ≠ d) ∧
    x.lane (s.laneOf d) = s.lane (s.laneOf d) ∧ x.record (s.laneOf d) = s.record (s.laneOf d) ∧
    (∀ k, x.lock k = s.lock k) ∧ x.inc = s.inc

/-- A failure that leaves the duty its state: one attempt more, no incident, the gate kept, and this count (R13, R75, R79). -/
def State.failedQuietly (s x : State) (l : LaneIx) (d : DutyIx) (last : LastOutcome) (count : Nat) : Prop :=
  s.outcomeTaken x l d ((s.duty d).afterFailure last) (s.lane l).gate count ∧ x.inc = s.inc

/-- The lane `l` takes an INTEGRITY report: it is SUSPECT with no blackout, its count rises, and it is latched at the third in a
row, or else resumes by itself where Auto-resume is set (R126, R127). -/
def State.laneSuspended (s x : State) (l : LaneIx) : Prop :=
  (x.lane l).gate = .suspect ∧ (x.lane l).integrityCount = (s.lane l).integrityCount + 1 ∧ (x.lane l).blackoutEnd = none ∧
    (x.lane l).yielding = false ∧ (s.lane l).sameConfig (x.lane l) ∧
    ((s.lane l).integrityCount = 2 → (x.lane l).latched = true ∧ (x.lane l).recoveryEnd = none) ∧
    ((s.lane l).integrityCount < 2 → (x.lane l).latched = (s.lane l).latched ∧
      (x.lane l).recoveryEnd =
        if (s.lane l).autoResume = true then some (satAdd s.now (s.lane l).recoveryTime) else none)

/-- The INTEGRITY incident of a duty's transaction (R82). -/
def State.integrityOf (s : State) (l : LaneIx) (d : DutyIx) (r : InFlight) : Incident where
  kind := .integrity
  epoch := s.now
  lane := l
  target := r.target
  duty := some d
  attempt := some r.attempt
  status := r.status
  data := some r.data

/-- An INTEGRITY outcome that leaves the duty its state: its incident, and the lane SUSPECT, latched at the third in a row
(R79, R82, R126). -/
def State.suspendedBy (s x : State) (l : LaneIx) (d : DutyIx) (r : InFlight) : Prop :=
  s.outcomeTaken x l d ((s.duty d).afterFailure .integrity) .suspect ((s.lane l).integrityCount + 1) ∧
    x.inc = (s.inc.pass (s.integrityOf l d r)).setLane ∧ s.laneSuspended x l

/-- The record of a RUNNING duty whose failure spent its retries (R17, R79, R80). -/
def Duty.faultedBy (x : Duty) (last : LastOutcome) : Duty :=
  { x.afterFailure last with state := .faulted, ticket := false, catchUp := false, forced := false, nextBoundary := none }

/-- A failure, other than INTEGRITY, that spends the retries of a RUNNING duty: the duty is FAULTED with its DUTY-FAULTED
incident, which carries the Status of the record if it has one, the gate is kept, and the lane has this count (R17, R79, R80,
R84). -/
def State.faultedQuietly (s x : State) (l : LaneIx) (d : DutyIx) (r : InFlight) (why : Reason) (last : LastOutcome)
    (count : Nat) : Prop :=
  s.sameBeside x d l ∧ x.duty d = (s.duty d).faultedBy last ∧ x.list l = (s.list l).filter (fun e => e ≠ d) ∧
    x.inc = s.inc.pass
      { kind := .dutyFaulted, reason := some why, epoch := s.now, lane := l, target := r.target, duty := some d
        attempt := some r.attempt, status := r.status } ∧
    s.lineFreed x l d (s.duty d).defn.quietTime ∧ (x.lane l).gate = (s.lane l).gate ∧ (x.lane l).integrityCount = count ∧
    (s.lane l).sameConfig (x.lane l) ∧ x.port = s.port

/-- A failure of the duty `d`'s transaction, other than INTEGRITY: with retries left, or STOPPED, it leaves the duty its state,
and it faults a RUNNING duty whose retries are spent (R13, R79, R80). -/
def State.dutyFails (s x : State) (l : LaneIx) (d : DutyIx) (r : InFlight) (why : Reason) (last : LastOutcome)
    (count : Nat) : Prop :=
  ((s.duty d).attempts < (s.duty d).defn.retryLimit ∨ (s.duty d).state = .stopped → s.failedQuietly x l d last count) ∧
    ((s.duty d).defn.retryLimit ≤ (s.duty d).attempts → (s.duty d).state = .running →
      s.faultedQuietly x l d r why last count)

/-- An INTEGRITY outcome that spends the retries of a RUNNING duty: the INTEGRITY incident, then DUTY-FAULTED, the duty FAULTED,
and the lane SUSPECT (R80, R82, R126). -/
def State.suspendedAndFaulted (s x : State) (l : LaneIx) (d : DutyIx) (r : InFlight) : Prop :=
  s.sameBeside x d l ∧ x.duty d = (s.duty d).faultedBy .integrity ∧ x.list l = (s.list l).filter (fun e => e ≠ d) ∧
    x.inc = ((s.inc.pass (s.integrityOf l d r)).pass
      { kind := .dutyFaulted, reason := some .integrity, epoch := s.now, lane := l, target := r.target, duty := some d
        attempt := some r.attempt, status := r.status }).setLane ∧
    s.lineFreed x l d (s.duty d).defn.quietTime ∧ s.laneSuspended x l ∧ x.port = s.port

/-- A waiting RETIRE DUTY of `d` has ended with the outcome of its transaction on the lane `l`: the duty is VACANT, its ticket is
gone, a lock it held is FREE, and DONE is recorded; the lane is QUIET, with no lock to carry (log 13), where the duty's Quiet
time was not 0, and else IDLE (R14, R15, R64, R168). -/
def State.retiredBy (s x : State) (l : LaneIx) (d : DutyIx) : Prop :=
  x.duty d = {} ∧ x.record l = none ∧ x.list l = (s.list l).filter (fun e => e ≠ d) ∧ s.sameBeside x d l ∧
    (∀ k, x.lock k = if s.lockOf d = some k ∧ s.lock k = some d then none else s.lock k) ∧
    x.port = { s.port with result := .done, state := .ready } ∧ x.inc.summary.command = true ∧
    (0 < (s.duty d).defn.quietTime →
      (x.lane l).activity = .quiet ∧ (x.lane l).quietEnd = some (satAdd s.now (s.duty d).defn.quietTime) ∧
        (x.lane l).quietLock = none) ∧
    ((s.duty d).defn.quietTime = 0 → (x.lane l).activity = .idle) ∧ (s.lane l).sameConfig (x.lane l)

/-- It has ended so with an outcome other than INTEGRITY, of which `u` is left in the incident unit before the result: the gate
is kept, and the lane has this count (R75). -/
def State.retiredQuietly (s x : State) (l : LaneIx) (d : DutyIx) (u : IncidentUnit) (count : Nat) : Prop :=
  s.retiredBy x l d ∧ (x.lane l).gate = (s.lane l).gate ∧ (x.lane l).integrityCount = count ∧
    ((s.duty d).state = .stopped → x.inc = u.setCommand)

/-- It has ended so with INTEGRITY, whose incident is recorded: the lane is SUSPECT (R82, R126). -/
def State.retiredAndSuspended (s x : State) (l : LaneIx) (d : DutyIx) (r : InFlight) : Prop :=
  s.retiredBy x l d ∧ s.laneSuspended x l ∧
    ((s.duty d).state = .stopped → x.inc = (s.inc.pass (s.integrityOf l d r)).setLane.setCommand)

/-- The lane after the outcome of a hold transaction that leaves its gate: the frame has ended, the activity is IDLE, and the
count is this (R62, R64, R125). -/
def Lane.freed (x : Lane) (count : Nat) : Lane := { x.endFrame with activity := .idle, integrityCount := count }

/-- The duty record at the credit of its target's exit, before it is offered a ticket: a RUNNING duty is re-based with Catch-up
pending, a WAITING one whose Start time is absent or reached starts without it, and any other is kept (R10, R36). That a Start
time equal to the epoch is reached here is the model's choice (DESIGN CHOICE, log 22). -/
def State.rebased (s : State) (d : DutyIx) : Duty :=
  if (s.duty d).state = .running then
    { s.duty d with nextBoundary := boundaryAfter s.now (s.duty d).defn.interval, catchUp := true }
  else if (s.duty d).state = .waiting ∧ absentOrReached s.now (s.duty d).defn.startTime = true then
    { s.duty d with state := .running, nextBoundary := boundaryAfter s.now (s.duty d).defn.interval }
  else s.duty d

/-- `x` differs from `s` only in the target `g`, in the lane `l` with its record, which is gone, and in the incident unit. -/
def State.sameBesideHold (s x : State) (g : TargetIx) (l : LaneIx) : Prop :=
  (∀ d, x.duty d = s.duty d) ∧ (∀ h, h ≠ g → x.target h = s.target h) ∧ (∀ j, x.list j = s.list j) ∧
    (∀ k, x.lock k = s.lock k) ∧ x.record l = none ∧ (∀ j, j ≠ l → x.record j = s.record j ∧ x.lane j = s.lane j) ∧
    x.time = s.time ∧ x.port = s.port ∧ x.busRead = s.busRead ∧ x.pending = s.pending

/-- The failure of a hold transaction as the target table takes it, which finds the incident unit `u` and leaves it `v`: a
retry, the entry given up because a release waits, or the retries spent (R100, R107, Table 5-4). -/
def State.holdFails (s x : State) (l : LaneIx) (r : InFlight) (why : Reason) (u v : IncidentUnit) : Prop :=
  s.sameBesideHold x r.target l ∧
    ((s.target r.target).holdAttempts < (s.target r.target).defn.holdRetryLimit →
      (r.kind = .holdEntry → (s.target r.target).releasePending = false →
        v = u ∧ x.target r.target = { s.target r.target with
          holdAttempts := (s.target r.target).holdAttempts + 1, holdTransaction := .entryPending }) ∧
      (r.kind = .holdEntry → (s.target r.target).releasePending = true →
        v = u.setHold ∧ x.target r.target = { s.target r.target with
          holdState := .active, holdTransaction := .none, releasePending := false
          holdAttempts := (s.target r.target).holdAttempts + 1 }) ∧
      (r.kind = .holdExit →
        v = u ∧ x.target r.target = { s.target r.target with
          holdAttempts := (s.target r.target).holdAttempts + 1, holdTransaction := .exitPending })) ∧
    ((s.target r.target).defn.holdRetryLimit ≤ (s.target r.target).holdAttempts →
      (r.kind = .holdEntry →
        x.target r.target = { s.target r.target with
          holdState := .active, holdTransaction := .none, releasePending := false
          holdAttempts := (s.target r.target).holdAttempts + 1 } ∧
        v = (u.pass
          { kind := .holdFailed, reason := some why, epoch := s.now, lane := l, target := r.target
            attempt := some r.attempt, status := r.status }).setHold) ∧
      (r.kind = .holdExit →
        x.target r.target = { s.target r.target with
          holdState := .stranded, holdTransaction := .none, deadlineKind := .none, deadline := none
          holdAttempts := (s.target r.target).holdAttempts + 1 } ∧
        v = (u.pass
          { kind := .stranded, reason := some why, epoch := s.now, lane := l, target := r.target
            attempt := some r.attempt, status := r.status }).setHold))

/-- A hold transaction has failed otherwise than by INTEGRITY: the lane is IDLE with its gate kept and this count (R85, R125). -/
def State.holdFailsQuietly (s x : State) (l : LaneIx) (r : InFlight) (why : Reason) (count : Nat) : Prop :=
  s.holdFails x l r why s.inc x.inc ∧ x.lane l = (s.lane l).freed count

/-- A hold transaction has failed by INTEGRITY: its incident comes before the target table's own, and the lane is SUSPECT
(R82, R85, R126). -/
def State.holdSuspends (s x : State) (l : LaneIx) (r : InFlight) : Prop :=
  (∃ v : IncidentUnit, x.inc = v.setLane ∧
      s.holdFails x l r .integrity
        (s.inc.pass
          { kind := .integrity, epoch := s.now, lane := l, target := r.target, attempt := some r.attempt, status := r.status
            data := some r.data }) v) ∧
    s.laneSuspended x l ∧
    x.lane l = { (s.lane l).freed ((s.lane l).integrityCount + 1) with
      gate := .suspect, blackoutEnd := none, yielding := false, latched := (x.lane l).latched
      recoveryEnd := (x.lane l).recoveryEnd }

/-- These pins are the idle levels of the lane's Mode, or released when it is UNCONFIGURED (R140). -/
def Lane.idleLevels (x : Lane) (p : Pins) : Prop :=
  (x.configured = true → x.mode = .select →
      p = { clk := if x.polarityHigh = true then .high else .low, dout := .high, sel := 0xFF, pullUp := true }) ∧
    (x.configured = false ∨ x.mode = .addressed →
      p = { clk := .released, dout := .released, sel := 0xFF, pullUp := false })

/-- These pins are those at which a frame to the Address begins: the idle levels, with the select line of the Address, and no
other, low on a SELECT lane (R132, R134). -/
def Lane.frameBegun (x : Lane) (address : Byte) (p : Pins) : Prop :=
  p = x.framePins address ∧ x.idleLevels { p with sel := 0xFF } ∧
    (x.mode = .select → ∀ n < 8, p.sel.getLsbD n = decide (n ≠ address.toNat)) ∧ (x.mode = .addressed → p.sel = 0xFF)

/-- These pins are those of a lane at an issue to the Address: its frame begins, but behind a stop that waits on a held clock
line the pins stay as they are (R132, R139). -/
def Lane.issuePins (x : Lane) (address : Byte) (p : Pins) : Prop :=
  (x.stopWaiting = false → x.frameBegun address p) ∧ (x.stopWaiting = true → p = x.pins)

/-- `t` is `s` after the issue of an entry or an exit of the target `g` on the lane `l`: its hold transaction is in flight, the
lane is BUSY and has its record, its frame begins, and nothing else has changed (R58, R69, R98, R132). -/
def State.holdIssued (s t : State) (l : LaneIx) (g : TargetIx) (kind : TxnKind) (txn : HoldTransaction) : Prop :=
  (∃ r, t.record l = some r ∧ r.kind = kind ∧ r.target = g ∧ r.attempt = (s.target g).holdAttempts + 1 ∧
      r.forcedMark = false ∧ r.issueEpoch = s.now ∧
      r.deadline.toNat = min (s.now.toNat + (s.target g).defn.responseTimeout) (2 ^ 48 - 1) ∧ r.phase = .request ∧
      r.deadlinePassed = false ∧ r.status = none ∧ r.data = []) ∧
    t.target g = { s.target g with holdTransaction := txn } ∧ (∀ h, h ≠ g → t.target h = s.target h) ∧
    t.lane l = { s.lane l with activity := .busy, pins := (t.lane l).pins } ∧
    (s.lane l).issuePins (s.target g).defn.address (t.lane l).pins ∧
    (∀ j, j ≠ l → t.lane j = s.lane j ∧ t.record j = s.record j) ∧ (∀ d, t.duty d = s.duty d) ∧
    (∀ j, t.list j = s.list j) ∧ (∀ k, t.lock k = s.lock k) ∧ t.time = s.time ∧ t.inc = s.inc ∧ t.port = s.port ∧
    t.busRead = s.busRead ∧ t.pending = s.pending

/-- Returned data equals the Expected value in every checked bit: where the Mask holds a one (R2). -/
def matchesUnder (expected mask data : List Byte) : Prop :=
  ∀ (k : Nat) (e m v : Byte), expected[k]? = some e → mask[k]? = some m → data[k]? = some v →
    ∀ b < 8, m.getLsbD b = true → v.getLsbD b = e.getLsbD b

-- The staging layouts in words and bits (Table 10-5, R177, R180)

/-- The bytes of a list whose first word is word `i` of the staging area, two to a word, the first in the low byte (R177). -/
def bytesFrom (v : Vector Word 32) (i : Nat) (bytes : List Byte) : Prop :=
  ∀ (k : Nat) (b : Byte), bytes[k]? = some b →
    ∃ w, v[i + k / 2]? = some w ∧ b.toNat = if k % 2 = 0 then w.toNat % 256 else w.toNat / 256

/-- An optional epoch value of three words, the least significant first, read where its presence bit is 1 (R177, R180). -/
def epochFrom (present : Bool) (lo mid hi : Word) (e : Option Epoch) : Prop :=
  (present = true → ∃ a, e = some a ∧ a.toNat = lo.toNat + 65536 * mid.toNat + 4294967296 * hi.toNat) ∧
    (present = false → e = none)

/-- The fields of DEFINE DUTY where Table 10-5 lays them, but for the bytes of its lists. -/
def DutyStaging.laidOut (w : DutyStaging) (v : Vector Word 32) : Prop :=
  (w.index = v[0].toNat % 256 ∧ w.target = v[0].toNat / 256) ∧
    (w.actionCode.toNat = v[1].toNat % 256 ∧ w.payloadLength = v[1].toNat / 256) ∧
    (w.readbackLength = v[6].toNat % 256 ∧ w.compare = v[6].getLsbD 8 ∧ w.advancePermitted = v[6].getLsbD 9 ∧
      w.settleSafe = v[6].getLsbD 10 ∧ w.haltOnDeviation = v[6].getLsbD 11) ∧
    w.interval = v[15].toNat + 65536 * (v[16].toNat % 256) ∧ w.shareGroup = v[16].toNat / 256 ∧
    (w.deferLimit = v[17].toNat % 16 ∧ w.advanceLimit = v[17].toNat / 16 % 16 ∧ w.retryLimit = v[17].toNat / 256 % 16 ∧
      w.busyLimit = v[17].toNat / 4096) ∧
    (v[6].getLsbD 12 = true → w.initialOwed = some v[18].toInt) ∧ (v[6].getLsbD 12 = false → w.initialOwed = none) ∧
    w.quietTime = v[19].toNat ∧ epochFrom (v[6].getLsbD 13) v[20] v[21] v[22] w.startTime ∧
    epochFrom (v[6].getLsbD 14) v[23] v[24] v[25] w.stopTime

/-- The definition of a duty whose fields are these, with its Payload in words 2 to 5 and, where Compare is set, its Expected
value in words 7 to 10 and its Mask in words 11 to 14. -/
def DutyDef.laidOut (y : DutyDef) (w : DutyStaging) (v : Vector Word 32) : Prop :=
  y.target.val = w.target ∧ y.actionCode = w.actionCode ∧ (y.payload.length = w.payloadLength ∧ bytesFrom v 2 y.payload) ∧
    y.readbackLength = w.readbackLength ∧ y.compare = w.compare ∧
    (w.compare = true →
      ∃ a b, y.expected = some a ∧ y.mask = some b ∧ a.length = w.readbackLength ∧ b.length = w.readbackLength ∧
        bytesFrom v 7 a ∧ bytesFrom v 11 b) ∧
    (w.compare = false → y.expected = none ∧ y.mask = none) ∧ y.interval = w.interval ∧ y.deferLimit = w.deferLimit ∧
    y.advanceLimit = w.advanceLimit ∧ y.initialOwed = w.initialOwed ∧ y.retryLimit = w.retryLimit ∧
    y.busyLimit = w.busyLimit ∧ y.quietTime = w.quietTime ∧ y.shareGroup = w.shareGroup ∧
    y.advancePermitted = w.advancePermitted ∧ y.settleSafe = w.settleSafe ∧ y.haltOnDeviation = w.haltOnDeviation ∧
    y.startTime = w.startTime ∧ y.stopTime = w.stopTime

/-- The fields of DEFINE TARGET where Table 10-5 lays them, but for the bytes of its lists. -/
def TargetStaging.laidOut (w : TargetStaging) (v : Vector Word 32) : Prop :=
  (w.index = v[0].toNat % 256 ∧ w.lane = v[0].toNat / 256) ∧
    (w.address.toNat = v[1].toNat % 256 ∧ w.holdRetryLimit = v[1].toNat / 256) ∧
    (w.responseTimeout = v[2].toNat % 256 ∧ w.busyBackoff = v[2].toNat / 256) ∧
    (w.entryCode.toNat = v[3].toNat % 256 ∧ w.entryLength = v[3].toNat / 256) ∧
    (w.exitCode.toNat = v[6].toNat % 256 ∧ w.exitLength = v[6].toNat / 256) ∧
    w.minimumHold = v[9].toNat ∧ w.maximumHold = v[10].toNat ∧ w.settleTime = v[11].toNat

/-- The definition of a target whose fields are these, with its Hold entry payload in words 4 and 5 and its Hold exit payload in
words 7 and 8. -/
def TargetDef.laidOut (y : TargetDef) (w : TargetStaging) (v : Vector Word 32) : Prop :=
  y.lane.val = w.lane ∧ y.address = w.address ∧ y.responseTimeout = w.responseTimeout ∧ y.busyBackoff = w.busyBackoff ∧
    y.entryCode = w.entryCode ∧ (y.entryPayload.length = w.entryLength ∧ bytesFrom v 4 y.entryPayload) ∧
    y.exitCode = w.exitCode ∧ (y.exitPayload.length = w.exitLength ∧ bytesFrom v 7 y.exitPayload) ∧
    y.minimumHold = w.minimumHold ∧ y.maximumHold = w.maximumHold ∧ y.settleTime = w.settleTime ∧
    y.holdRetryLimit = w.holdRetryLimit

/-- The fields of CONFIGURE LANE where Table 10-5 lays them. -/
def LaneStaging.laidOut (w : LaneStaging) (v : Vector Word 32) : Prop :=
  w.lane = v[0].toNat % 256 ∧ (v[1].getLsbD 0 = false → w.mode = .select) ∧ (v[1].getLsbD 0 = true → w.mode = .addressed) ∧
    (v[1].getLsbD 1 = false → w.bitOrder = .msbFirst) ∧ (v[1].getLsbD 1 = true → w.bitOrder = .lsbFirst) ∧
    w.polarityHigh = v[1].getLsbD 2 ∧ w.autoResume = v[1].getLsbD 3 ∧ w.divider = v[2].toNat % 256 ∧
    w.recoveryTime = v[2].toNat / 256

/-- The operands of the other commands where Table 10-5 lays them: the Index or lane, the value of SET OWED, the Clear option,
the length and Yield flag of a blackout, and the Start time of START DUTY. -/
def operandsLaidOut (v : Vector Word 32) : Prop :=
  stagedIndex v = v[0].toNat % 256 ∧ stagedOwed v = v[1].toInt ∧ stagedClear v = v[1].getLsbD 0 ∧
    stagedLength v = v[1].toNat ∧ stagedYield v = v[2].getLsbD 0 ∧
    epochFrom (v[1].getLsbD 0) v[2] v[3] v[4] (stagedStartTime v)

-- The incident unit, and what the host reads of it and of the lanes (R152, R153, R157 to R160; Tables 10-4, 10-7)

/-- `v` is `u` with this summary, but for the INCIDENT cause, which follows the queue, and with IRQ as the causes and the enables
say: nothing else has changed (R157, R160). -/
def IncidentUnit.hasSummary (u v : IncidentUnit) (summary : Causes) : Prop :=
  v.queue = u.queue ∧ v.sequence = u.sequence ∧ v.enable = u.enable ∧
    v.summary = { summary with incident := !u.queue.isEmpty } ∧ v.irq = anyEnabled v.summary v.enable

/-- `v` is `u` after the incident `i` has been passed to it: the incident takes the next Sequence and is stored at the tail, or
dropped with OVERFLOW set when the queue holds 16 records (R152, R153). -/
def IncidentUnit.hasPassed (u v : IncidentUnit) (i : Incident) : Prop :=
  v.sequence = u.sequence + 1 ∧ v.enable = u.enable ∧ v.irq = anyEnabled v.summary v.enable ∧
    (u.queue.length < 16 → v.queue = u.queue ++ [{ i with sequence := u.sequence }] ∧
      v.summary = { u.summary with incident := true }) ∧
    (16 ≤ u.queue.length → v.queue = u.queue ∧ v.summary = { u.summary with incident := true, overflow := true })

/-- The incident window of a state shows the record `i`, word by word (R155, R182). -/
def State.windowShows (s : State) (i : Incident) : Prop :=
  ((s.busReads 0x38).toNat % 16 = i.kind.code ∧
      (s.busReads 0x38).toNat / 16 % 8 = ((i.reason.map Reason.code).getD 0) ∧ (s.busReads 0x38).getLsbD 7 = false ∧
      (s.busReads 0x38).toNat / 256 % 4 = i.lane.val ∧ (s.busReads 0x38).getLsbD 10 = i.duty.isSome ∧
      (s.busReads 0x38).getLsbD 11 = i.status.isSome ∧ (s.busReads 0x38).getLsbD 12 = i.data.isSome ∧
      (s.busReads 0x38).toNat / 8192 = i.attempt.getD 0 % 8) ∧
    s.busReads 0x39 = i.sequence ∧
    i.epoch.toNat = (s.busReads 0x3A).toNat + 65536 * (s.busReads 0x3B).toNat + 4294967296 * (s.busReads 0x3C).toNat ∧
    (s.busReads 0x3D).toNat = i.target.val + 256 * ((i.duty.map Fin.val).getD 0) ∧
    (s.busReads 0x3E).toNat = (i.status.getD 0).toNat + 256 * ((i.data.getD []).length % 256) ∧
    (∀ k < 4, (s.busReads (BitVec.ofNat 7 (0x3F + k))).toNat =
      ((i.data.getD []).getD (2 * k) 0).toNat + 256 * ((i.data.getD []).getD (2 * k + 1) 0).toNat) ∧
    s.busReads 0x43 = 0 ∧ s.busReads 0x44 = 0 ∧ s.busReads 0x45 = 0

-- What holds between commands

/-- The INCIDENT cause follows the queue (R157), IRQ the summary and the enables (R160), and the queue holds at most 16 records
(R153). -/
def IncidentUnit.sound (u : IncidentUnit) : Prop :=
  u.summary.incident = !u.queue.isEmpty ∧ u.irq = anyEnabled u.summary u.enable ∧ u.queue.length ≤ Config.queueCapacity

/-- A trim lies in -1024..+1023 (Table 7-1). -/
def trimInRange (v : Int) : Prop := -1024 ≤ v ∧ v ≤ 1023

/-- The time base stands in the ranges of Table 7-1, with the part length of R143. -/
def TimeBase.sound (t : TimeBase) : Prop :=
  (t.tickLength = 3 ∨ t.tickLength = 4 ∨ t.tickLength = 5) ∧ t.phase < t.tickLength ∧ t.position < t.windowInForce.cycles ∧
    trimInRange t.trimInForce ∧ trimInRange t.writtenTrim ∧ t.partLength = partLengthOf t.windowInForce t.trimInForce

/-- A count lies in -A..D+1 of a definition (R23). -/
def DutyDef.owedInRange (x : DutyDef) (v : Int) : Prop := -(x.advanceLimit : Int) ≤ v ∧ v ≤ x.deferLimit + 1

/-- Owed and a present Initial owed lie in -A..D+1 (R23, Table 1-1), and a set Overdue marker has Owed at D+1 (R30). -/
def Duty.owedSound (x : Duty) : Prop :=
  x.defn.owedInRange x.owed ∧ (∀ v, x.defn.initialOwed = some v → x.defn.owedInRange v) ∧
    (x.overdue = true → x.owed = x.defn.deferLimit + 1)

/-- Every duty's count is sound. -/
def State.owedSound (s : State) : Prop := ∀ d, (s.duty d).owedSound

/-- The due lists (R4, R44): a duty stands on the list of its own lane exactly when Ticket present is set, once; a ticket is
held by a RUNNING duty with nothing in flight; and a duty that is not VACANT names a defined target (R6, R93, R95). -/
def State.ticketsSound (s : State) : Prop :=
  (∀ l d, d ∈ s.list l ↔ ((s.duty d).ticket = true ∧ s.laneOf d = l)) ∧ (∀ l, (s.list l).Nodup) ∧
    (∀ d, (s.duty d).ticket = true → (s.duty d).state = .running ∧ (s.duty d).inFlight = false) ∧
    (∀ d, (s.duty d).state ≠ .vacant → (s.targetOf d).holdState ≠ .undefined)

/-- A lane's fields by its gate and activity (R68, R118, R125, R126, R128, Table 6-1). -/
def Lane.sound (x : Lane) (r : Option InFlight) : Prop :=
  (r.isSome = true ↔ x.activity = .busy) ∧ (x.quietEnd.isSome = true ↔ x.activity = .quiet) ∧
    (x.gate = .closed → x.activity = .idle) ∧ (x.gate = .suspect → x.activity ≠ .busy) ∧
    (x.blackoutEnd.isSome = true ↔ x.gate = .blackout) ∧ (x.yielding = true → x.gate = .blackout) ∧
    (x.recoveryEnd.isSome = true → x.gate = .suspect ∧ x.integrityCount ≤ 2) ∧ x.integrityCount ≤ 3 ∧
    (x.gate = .opened ∨ x.gate = .blackout → x.integrityCount ≤ 2) ∧
    (x.latched = true ↔ x.gate = .suspect ∧ x.integrityCount = 3)

/-- Every lane is sound. -/
def State.lanesSound (s : State) : Prop := ∀ l, (s.lane l).sound (s.record l)

/-- A target's runtime part by its hold state (R91, R96, Table 5-2). -/
def Target.sound (x : Target) : Prop :=
  (x.holdState = .undefined → x = {}) ∧
    (x.holdTransaction = .entryPending ∨ x.holdTransaction = .entryInFlight ↔ x.holdState = .entering) ∧
    (x.holdTransaction = .exitPending ∨ x.holdTransaction = .exitInFlight ↔ x.holdState = .leaving) ∧
    (x.releasePending = true → x.holdTransaction = .entryInFlight) ∧
    (x.deadline.isSome = true ↔ x.deadlineKind ≠ .none) ∧
    (x.deadlineKind = .minimum → x.holdState = .leaving) ∧ (x.deadlineKind = .maximum → x.holdState = .held) ∧
    (x.deadlineKind = .settle ↔ x.holdState = .settling) ∧ (x.holdState = .held → x.heldSince.isSome = true)

/-- A duty's runtime part by its state (R3, R4, R14). -/
def Duty.sound (x : Duty) : Prop :=
  (x.state = .vacant → x = {}) ∧
    (x.state ≠ .running → x.nextBoundary = none ∧ x.catchUp = false ∧ x.forced = false ∧ x.ticket = false) ∧
    (x.inFlight = true → x.state = .running ∨ x.state = .stopped) ∧
    (x.retirePending = true → x.state = .stopped ∧ x.inFlight = true) ∧
    (x.state = .running → x.attempts ≤ x.defn.retryLimit) ∧ x.attempts ≤ x.defn.retryLimit + 1 ∧
    (x.inFlight = true → x.attempts ≤ x.defn.retryLimit) ∧ x.busyCount ≤ x.defn.busyLimit ∧
    (x.ticket = true → x.wantsIssue = true)

/-- What the record of a lane stands for (R68, R69): a duty of the lane in flight, or the hold transaction of a target of the
lane. -/
def State.recordSound (s : State) (l : LaneIx) (r : InFlight) : Prop :=
  (s.target r.target).defn.lane = l ∧
    match r.kind with
    | .duty d => (s.duty d).inFlight = true ∧ (s.duty d).defn.target = r.target ∧ r.attempt = (s.duty d).attempts + 1 ∧
        (s.targetOf d).holdState.accruing = true
    | .holdEntry => (s.target r.target).holdTransaction = .entryInFlight ∧ r.attempt = (s.target r.target).holdAttempts + 1
    | .holdExit => (s.target r.target).holdTransaction = .exitInFlight ∧ r.attempt = (s.target r.target).holdAttempts + 1

/-- A transaction in flight has its record on its lane, and every record its transaction (R58, R68). -/
def State.recordsSound (s : State) : Prop :=
  (∀ l r, s.record l = some r → s.recordSound l r) ∧
    (∀ d, (s.duty d).inFlight = true → ∃ r, s.record (s.laneOf d) = some r ∧ r.kind = .duty d) ∧
    (∀ t, (s.target t).holdTransaction = .entryInFlight →
      ∃ r, s.record (s.target t).defn.lane = some r ∧ r.kind = .holdEntry ∧ r.target = t) ∧
    (∀ t, (s.target t).holdTransaction = .exitInFlight →
      ∃ r, s.record (s.target t).defn.lane = some r ∧ r.kind = .holdExit ∧ r.target = t)

/-- A held lock: its duty's Share group names it, and the duty has its transaction in flight or its lane is QUIET after that
transaction's outcome (R60). -/
def State.locksSound (s : State) : Prop :=
  (∀ g d, s.lock g = some d →
      s.lockOf d = some g ∧ ((s.duty d).inFlight = true ∨ (s.lane (s.laneOf d)).quietLock = some (g, d))) ∧
    (∀ l g d, (s.lane l).quietLock = some (g, d) → (s.lane l).activity = .quiet ∧ s.lock g = some d ∧ s.laneOf d = l)

/-- The port is WORKING exactly while a RETIRE DUTY waits, for the duty it latched (R15, R163, R165). -/
def State.portSound (s : State) : Prop :=
  (∀ d, (s.duty d).retirePending = true ↔ (s.port.state = .working ∧ s.waitingDuty = d))

/-- A duty's Catch-up pending is set only while its target is SETTLING or ACTIVE (R37, R97), and a RUNNING duty whose target
does not accrue has no Next boundary (R26). -/
def State.holdsSound (s : State) : Prop :=
  (∀ t, (s.target t).sound) ∧
    (∀ d, (s.duty d).catchUp = true → (s.targetOf d).holdState = .active ∨ (s.targetOf d).holdState = .settling) ∧
    (∀ d, (s.duty d).nextBoundary.isSome = true → (s.targetOf d).holdState.accruing = true)

/-- Everything that the records of the blocks owe one another between commands. -/
def State.consistent (s : State) : Prop :=
  s.inc.sound ∧ s.time.sound ∧ s.owedSound ∧ s.ticketsSound ∧ s.lanesSound ∧ s.holdsSound ∧ (∀ d, (s.duty d).sound) ∧
    s.recordsSound ∧ s.locksSound ∧ s.portSound

end Sys2Proof.Machine
end

