-- ==== Sys2Proof/WellFormed.lean ====
section
/-! DEFINITION. Which commands stand for the row they are named after. Numbers of duties, targets and lanes are in range by
their types; what is left are the rows that the table cuts out of a write by its code or its address. -/

namespace Sys2Proof

/-- The byte offsets that have a row of their own in the table, or that COMMAND's rows share: a write there is no
REGISTER_WRITE. -/
def ownWriteRows : List (BitVec 7) := [0x01, 0x02, 0x47, 0x48, 0x49, 0x53, 0x54]

/-- A command that is what its row says: UNKNOWN_CODE has an unassigned code (R166), COMMAND_DISCARDED a code other than
ABORT and SCHEDULER RESET (R169), and REGISTER_WRITE an address that no other row writes (R177). A command that is not
well formed is still a write to the window, and runs as that write (log 6). -/
def Instr.wf : Instr → Bool
  | .unknownCode code => (commandOfCode code).isNone
  | .commandDiscarded code => code != 0x30 && code != 0x31
  | .registerWrite reg _ => !ownWriteRows.contains reg
  | .defineDuty => true
  | .startDuty => true
  | .stopDuty => true
  | .retireDuty => true
  | .reviveDuty => true
  | .setOwed => true
  | .prodDuty => true
  | .snapshotDuty => true
  | .defineTarget => true
  | .dropTarget => true
  | .holdTarget => true
  | .releaseTarget => true
  | .snapshotTarget => true
  | .configureLane => true
  | .openLane => true
  | .closeLane => true
  | .blackoutLane => true
  | .resumeLane => true
  | .clearSuspect => true
  | .abort => true
  | .schedulerReset => true
  | .portClear _ => true
  | .incidentPop _ => true
  | .eventSummaryWrite _ => true
  | .eventEnableWrite _ => true
  | .trimValueWrite _ => true
  | .trimWindowWrite _ => true
  | .epochLoRead => true
  | .reset => true
  | .powerOn => true
  | .tickCompletion => true
  | .windowStart => true
  | .partEnd => true
  | .boundary _ => true
  | .startTime _ => true
  | .stopTime _ => true
  | .backoffEnd _ => true
  | .responseDeadline _ => true
  | .quietEnd _ => true
  | .blackoutEnd _ => true
  | .autoResume _ => true
  | .minimumHoldEnd _ => true
  | .maximumHoldEnd _ => true
  | .settleEnd _ => true
  | .statusRead _ _ => true
  | .dataByte _ _ => true
  | .checkByte _ _ => true
  | .addressNotAcknowledged _ => true
  | .requestByteRefused _ => true
  | .clockLineHold _ => true
  | .clockLineRelease _ => true
  | .refclkCycle => true

end Sys2Proof
end

