-- ==== Sys2Proof/Certificates/Slice0/Obligations.lean ====
section
/-! DEFINITION. The statements for the provers. `doneFrom c s x ls` and `leaves c s x ls` say that the command completes, that
`x` is what it leaves before its looks, and which looks follow; the statements about the dispatcher say what a look does. -/

section

open Sys2Proof Sys2Proof.Machine

-- The queue and the steps

/-- A step runs the command at the front of the queue on the state with the queue's rest. On an empty queue the block idles:
the model's choice (DESIGN CHOICE, log 2). -/
def Obligations.StepRunsFrontCommand : Prop :=
  (∀ (c : Instr) (rest : List Instr) (s : State), s.pending = c :: rest → step s = exec c { s with pending := rest }) ∧
    ∀ s : State, s.pending = [] → step s = .next s

/-- No command stops the block, and none touches the commands that wait behind it. That RESET and power-on keep them too is
the model's choice (DESIGN CHOICE, log 2). R12, R72, R122: a row of an event whose condition does not hold changes nothing: a
Stop time of a STOPPED duty, a frame result after the outcome, a Blackout end that was replaced. For every other row of an event
this is the model's choice (DESIGN CHOICE, log 3), with what log 5, log 7, log 9 and log 16 say of ticks, status reads, the clock
line and the request. -/
def Obligations.EveryCommandAnswersNext : Prop :=
  (∀ (c : Instr) (s : State), ∃ t : State, exec c s = .next t ∧ t.pending = s.pending) ∧
    (∀ (s : State) (d : DutyIx),
      (s.accrues d = false ∨ (∀ e, (s.duty d).nextBoundary = some e → s.now.toNat < e.toNat) →
        exec (.boundary d) s = .next s) ∧
      ((s.duty d).state ≠ .waiting ∨ (s.targetOf d).holdState.accruing = false ∨
          (∀ e, (s.duty d).defn.startTime = some e → s.now.toNat < e.toNat) →
        exec (.startTime d) s = .next s) ∧
      ((s.duty d).state = .vacant ∨ (s.duty d).state = .stopped ∨
          (∀ e, (s.duty d).defn.stopTime = some e → s.now.toNat < e.toNat) →
        exec (.stopTime d) s = .next s) ∧
      ((∀ e, (s.duty d).backoffUntil = some e → s.now.toNat < e.toNat) → exec (.backoffEnd d) s = .next s)) ∧
    (∀ (s : State) (l : LaneIx),
      ((∀ r, s.record l = some r → s.now.toNat < r.deadline.toNat) → exec (.responseDeadline l) s = .next s) ∧
      ((s.lane l).activity ≠ .quiet ∨ (∀ e, (s.lane l).quietEnd = some e → s.now.toNat < e.toNat) →
        exec (.quietEnd l) s = .next s) ∧
      ((s.lane l).gate ≠ .blackout ∨ (∀ e, (s.lane l).blackoutEnd = some e → s.now.toNat < e.toNat) →
        exec (.blackoutEnd l) s = .next s) ∧
      ((s.lane l).gate ≠ .suspect ∨ (∀ e, (s.lane l).recoveryEnd = some e → s.now.toNat < e.toNat) →
        exec (.autoResume l) s = .next s)) ∧
    (∀ (s : State) (g : TargetIx),
      ((s.target g).holdState ≠ .leaving ∨ (s.target g).deadlineKind ≠ .minimum ∨
          (∀ e, (s.target g).deadline = some e → s.now.toNat < e.toNat) →
        exec (.minimumHoldEnd g) s = .next s) ∧
      ((s.target g).holdState ≠ .held ∨ (s.target g).deadlineKind ≠ .maximum ∨
          (∀ e, (s.target g).deadline = some e → s.now.toNat < e.toNat) →
        exec (.maximumHoldEnd g) s = .next s) ∧
      ((s.target g).holdState ≠ .settling ∨ (s.target g).deadlineKind ≠ .settle ∨
          (∀ e, (s.target g).deadline = some e → s.now.toNat < e.toNat) →
        exec (.settleEnd g) s = .next s)) ∧
    (∀ (s : State) (l : LaneIx) (v : Byte), (s.record l = none ∨ (s.lane l).clockHeld = true) →
      exec (.statusRead l v) s = .next s ∧ exec (.dataByte l v) s = .next s ∧ exec (.checkByte l v) s = .next s ∧
        exec (.addressNotAcknowledged l) s = .next s ∧ exec (.requestByteRefused l) s = .next s) ∧
    (∀ (s : State) (l : LaneIx) (r : InFlight) (v : Byte), s.record l = some r →
      (r.phase = .response ∨ (r.phase = .wait ∧ r.tickSinceRead = false) →
        exec (.statusRead l v) s = .next s ∧ exec (.addressNotAcknowledged l) s = .next s) ∧
      (r.phase ≠ .response ∨ s.expectedData r ≤ r.data.length → exec (.dataByte l v) s = .next s) ∧
      (r.phase ≠ .response ∨ r.data.length < s.expectedData r → exec (.checkByte l v) s = .next s) ∧
      ((s.lane l).mode = .select → exec (.addressNotAcknowledged l) s = .next s) ∧
      ((s.lane l).mode = .select ∨ r.phase ≠ .request → exec (.requestByteRefused l) s = .next s)) ∧
    ∀ s : State,
      (s.time.phase + 1 < s.time.tickLength → exec .tickCompletion s = .next s) ∧
      (s.time.position + 1 < s.time.windowInForce.cycles → exec .windowStart s = .next s) ∧
      (s.time.endsPart = false → exec .partEnd s = .next s)

-- The command port

/-- R169: a code discarded in WORKING leaves no trace but Collision, and ABORT and SCHEDULER RESET do not set it. -/
def Obligations.WorkingDiscardsCodes : Prop :=
  (∀ (c : Instr) (code : Byte) (s : State), codeOf c = some code → c ≠ .abort → c ≠ .schedulerReset → s.port.state = .working →
      exec c s = .next { s with port := { s.port with collision := true } }) ∧
    (∀ (code : Byte) (s : State), commandOfCode code = none → s.port.state = .working →
      exec (.unknownCode code) s = .next { s with port := { s.port with collision := true } }) ∧
    (∀ (code : Byte) (s : State), code ≠ 0x30 → code ≠ 0x31 → s.port.state = .working →
      exec (.commandDiscarded code) s = .next { s with port := { s.port with collision := true } }) ∧
    ∀ s t : State, s.port.state = .working → exec .abort s = .next t ∨ exec .schedulerReset s = .next t →
      t.port.collision = s.port.collision

/-- R164 to R166, R178: a code taken in READY latches the staging area and becomes the Current code; one that is neither ABORT
nor SCHEDULER RESET and ends with another result than DONE is refused, and changes nothing else; an unassigned code is answered
UNKNOWN. The codes are those of Table 10-3. PORT_STATUS shows the port, bit by bit as Table 10-2 has it. -/
def Obligations.ReadyTakesACode : Prop :=
  (∀ (c : Instr) (code : Byte) (s t : State), codeOf c = some code → s.port.state = .ready → exec c s = .next t →
      t.port.latched = s.port.staging ∧ t.port.staging = s.port.staging ∧ t.port.code = code ∧
        t.port.collision = s.port.collision) ∧
    (∀ (c : Instr) (code : Byte) (s t : State), codeOf c = some code → c ≠ .abort → c ≠ .schedulerReset →
      s.port.state = .ready → exec c s = .next t → t.port.state = .ready → t.port.result ≠ .done →
      refuses c code s t.port.result) ∧
    (∀ (code : Byte) (s : State), commandOfCode code = none → s.port.state = .ready →
      refuses (.unknownCode code) code s .unknown) ∧
    (∀ s : State, (s.busReads 0x00).toNat =
      (if s.port.state = .working then 1 else 0) + (if s.port.collision = true then 2 else 0) + 16 * s.port.result.code +
        256 * s.port.code.toNat) ∧
    [CmdResult.none, .done, .state, .field, .inUse, .duplicate, .catchUp, .aborted, .tooLate, .unknown].map CmdResult.code =
      [0, 1, 2, 3, 4, 5, 6, 7, 8, 9] ∧
    (∀ (c : Instr) (code : Byte), (codeOf c = some code ↔ (c, code) ∈
        [(Instr.defineDuty, (0x01 : Byte)), (.startDuty, 0x02), (.stopDuty, 0x03), (.retireDuty, 0x04), (.reviveDuty, 0x05),
          (.setOwed, 0x06), (.prodDuty, 0x07), (.snapshotDuty, 0x08), (.defineTarget, 0x10), (.dropTarget, 0x11),
          (.holdTarget, 0x12), (.releaseTarget, 0x13), (.snapshotTarget, 0x14), (.configureLane, 0x20), (.openLane, 0x21),
          (.closeLane, 0x22), (.blackoutLane, 0x23), (.resumeLane, 0x24), (.clearSuspect, 0x25), (.abort, 0x30),
          (.schedulerReset, 0x31)]) ∧
      (commandOfCode code = some c ↔ codeOf c = some code)) ∧
    ∀ (s : State) (code : Byte) (result : CmdResult),
      s.latch code = { s with port := { s.port with latched := s.port.staging, code := code } } ∧
        s.recordResult result =
          { s with port := { s.port with result := result, state := .ready }, inc := s.inc.setCommand }

/-- R172: ABORT in READY records TOO-LATE and changes no other state of the part. -/
def Obligations.AbortInReadyIsTooLate : Prop :=
  ∀ s : State, s.port.state = .ready → refuses .abort 0x30 s .tooLate

/-- R5, R6, R8, R92, R93, R116, R117, R122 and the rules of the commands: a number out of range is refused with FIELD, a record
whose state the command does not accept with STATE, a parameter out of its range with FIELD, and a conflict with IN-USE or
DUPLICATE. The parameters are read from the words and bits of Table 10-5 (R180), those of every command among them. That DEFINE
TARGET checks IN-USE and DUPLICATE before FIELD is DEDUCED (log 8). -/
def Obligations.RefusalsByNumberAndState : Prop :=
  (∀ (c : Instr) (code : Byte) (s : State), s.port.state = .ready → 64 ≤ stagedIndex s.port.staging →
      (c, code) ∈ [(Instr.defineDuty, (0x01 : Byte)), (.startDuty, 0x02), (.stopDuty, 0x03), (.retireDuty, 0x04),
        (.reviveDuty, 0x05), (.setOwed, 0x06), (.prodDuty, 0x07), (.snapshotDuty, 0x08)] →
      refuses c code s .field) ∧
    (∀ (c : Instr) (code : Byte) (s : State), s.port.state = .ready → 32 ≤ stagedIndex s.port.staging →
      (c, code) ∈ [(Instr.defineTarget, (0x10 : Byte)), (.dropTarget, 0x11), (.holdTarget, 0x12), (.releaseTarget, 0x13),
        (.snapshotTarget, 0x14)] →
      refuses c code s .field) ∧
    (∀ (c : Instr) (code : Byte) (s : State), s.port.state = .ready → 4 ≤ stagedIndex s.port.staging →
      (c, code) ∈ [(Instr.configureLane, (0x20 : Byte)), (.openLane, 0x21), (.closeLane, 0x22), (.blackoutLane, 0x23),
        (.resumeLane, 0x24), (.clearSuspect, 0x25)] →
      refuses c code s .field) ∧
    (∀ (s : State) (d : DutyIx), s.port.state = .ready → stagedIndex s.port.staging = d.val →
      ((s.duty d).state ≠ .vacant → (s.duty d).state ≠ .stopped → refuses .defineDuty 0x01 s .state) ∧
      ((s.duty d).state ≠ .stopped ∨ (s.duty d).inFlight = true → refuses .startDuty 0x02 s .state) ∧
      ((s.duty d).state = .vacant ∨ (s.duty d).state = .stopped → refuses .stopDuty 0x03 s .state) ∧
      ((s.duty d).state = .vacant → refuses .retireDuty 0x04 s .state ∧ refuses .setOwed 0x06 s .state) ∧
      ((s.duty d).state ≠ .faulted → refuses .reviveDuty 0x05 s .state) ∧
      ((s.duty d).state ≠ .running → refuses .prodDuty 0x07 s .state)) ∧
    (∀ (s : State) (g : TargetIx), s.port.state = .ready → stagedIndex s.port.staging = g.val →
      ((s.target g).holdState ≠ .undefined → (s.target g).holdState ≠ .active → refuses .defineTarget 0x10 s .state) ∧
      ((s.target g).holdState = .undefined ∨ (s.target g).holdState = .entering ∨ (s.target g).holdState = .leaving →
        refuses .dropTarget 0x11 s .state) ∧
      ((s.target g).holdState ≠ .active → refuses .holdTarget 0x12 s .state)) ∧
    (∀ (s : State) (l : LaneIx), s.port.state = .ready → stagedIndex s.port.staging = l.val →
      ((s.lane l).gate ≠ .closed → refuses .configureLane 0x20 s .state) ∧
      ((s.lane l).gate = .closed ∨ (s.lane l).gate = .suspect → refuses .blackoutLane 0x23 s .state)) ∧
    (∀ (s : State) (d : DutyIx) (w : DutyStaging), s.port.state = .ready → w.laidOut s.port.staging → w.index = d.val →
      ((s.duty d).state = .stopped → (s.duty d).inFlight = true ∨ s.holdsLock d = true →
        refuses .defineDuty 0x01 s .state) ∧
      ((s.duty d).state = .vacant ∨
          ((s.duty d).state = .stopped ∧ (s.duty d).inFlight = false ∧ s.holdsLock d = false) →
        8 < w.payloadLength ∨ 8 < w.readbackLength ∨ w.interval < 16 ∨
          (∃ v, w.initialOwed = some v ∧ (v < -(w.advanceLimit : Int) ∨ (w.deferLimit : Int) + 1 < v)) ∨
          3 < w.retryLimit ∨ w.busyLimit = 0 ∨ 4095 < w.quietTime ∨ 8 < w.shareGroup ∨
          (w.compare = true ∧ w.readbackLength = 0) ∨
          (∃ a b, w.startTime = some a ∧ w.stopTime = some b ∧ b.toNat ≤ a.toNat) ∨ 32 ≤ w.target ∨
          (∃ g : TargetIx, w.target = g.val ∧ (s.target g).holdState = .undefined) →
        refuses .defineDuty 0x01 s .field)) ∧
    (∀ (s : State) (d : DutyIx) (start : Option Epoch), s.port.state = .ready → stagedIndex s.port.staging = d.val →
      (s.duty d).state = .stopped → (s.duty d).inFlight = false →
      start = (if (stagedStartTime s.port.staging).isSome = true then stagedStartTime s.port.staging
        else (s.duty d).defn.startTime) →
      (∃ b, (s.duty d).defn.stopTime = some b ∧
        (b.toNat ≤ s.now.toNat ∨ ∃ a, start = some a ∧ b.toNat ≤ a.toNat)) →
      refuses .startDuty 0x02 s .field) ∧
    (∀ (s : State) (g : TargetIx) (w : TargetStaging), s.port.state = .ready → w.laidOut s.port.staging →
      w.index = g.val → (s.target g).holdState = .undefined ∨ (s.target g).holdState = .active →
      ((s.target g).holdState = .active → (∃ d, (s.duty d).state ≠ .vacant ∧ (s.duty d).defn.target = g) →
        refuses .defineTarget 0x10 s .inUse) ∧
      ((s.target g).holdState = .undefined ∨ (∀ d, (s.duty d).state ≠ .vacant → (s.duty d).defn.target ≠ g) →
        ((∃ h, h ≠ g ∧ (s.target h).holdState ≠ .undefined ∧ (s.target h).defn.lane.val = w.lane ∧
            (s.target h).defn.address = w.address) →
          refuses .defineTarget 0x10 s .duplicate) ∧
        ((∀ h, h ≠ g → (s.target h).holdState ≠ .undefined → (s.target h).defn.lane.val = w.lane →
            (s.target h).defn.address ≠ w.address) →
          4 ≤ w.lane ∨
            (∃ l : LaneIx, w.lane = l.val ∧
              ((s.lane l).configured = false ∨ ((s.lane l).mode = .select ∧ 7 < w.address.toNat) ∨
                ((s.lane l).mode = .addressed ∧ (w.address.toNat < 0x08 ∨ 0x77 < w.address.toNat)))) ∨
            w.responseTimeout = 0 ∨ w.busyBackoff = 0 ∨ 4 < w.entryLength ∨ 4 < w.exitLength ∨ 3 < w.holdRetryLimit →
          refuses .defineTarget 0x10 s .field))) ∧
    (∀ (s : State) (l : LaneIx) (w : LaneStaging), s.port.state = .ready → w.laidOut s.port.staging →
      w.lane = l.val → (s.lane l).gate = .closed →
      ((s.lane l).configured = true → (s.lane l).mode ≠ w.mode →
        (∃ g, (s.target g).holdState ≠ .undefined ∧ (s.target g).defn.lane = l) → refuses .configureLane 0x20 s .inUse) ∧
      ((s.lane l).configured = false ∨ (s.lane l).mode = w.mode ∨
          (∀ g, (s.target g).holdState ≠ .undefined → (s.target g).defn.lane ≠ l) →
        w.divider = 0 ∨ w.recoveryTime = 0 → refuses .configureLane 0x20 s .field)) ∧
    (∀ (s : State) (l : LaneIx) (pressed : Prop), s.port.state = .ready → stagedIndex s.port.staging = l.val →
      (s.lane l).gate = .opened ∨ (s.lane l).gate = .blackout →
      (pressed ↔ ∃ d, (s.duty d).state = .running ∧ s.laneOf d = l ∧
        (s.duty d).owed = ((s.duty d).defn.deferLimit : Int) + 1) →
      (stagedYield s.port.staging = true → pressed → refuses .blackoutLane 0x23 s .state) ∧
      (¬(stagedYield s.port.staging = true ∧ pressed) → stagedLength s.port.staging = 0 →
        refuses .blackoutLane 0x23 s .field)) ∧
    ∀ v : Vector Word 32, operandsLaidOut v

/-- R14, R15, R167: RETIRE DUTY. With nothing in flight the duty is vacated at once: its record is the VACANT one, its ticket is
gone and a lock it held is FREE. In flight, it is stopped, Retire pending is set and the port goes to WORKING with no result. -/
def Obligations.RetireVacatesOrWaits : Prop :=
  ∀ (s : State) (d : DutyIx), s.port.state = .ready → stagedIndex s.port.staging = d.val →
    ((s.duty d).inFlight = false → (s.duty d).state ≠ .vacant →
      ∃ x : State, doneFrom .retireDuty s x [s.laneOf d] ∧ x.duty d = {} ∧ s.sameBeside x d (s.laneOf d) ∧
        x.list (s.laneOf d) = (s.list (s.laneOf d)).filter (fun e => e ≠ d) ∧
        (∀ k, x.lock k = if s.lockOf d = some k ∧ s.lock k = some d then none else s.lock k) ∧
        x.lane (s.laneOf d) = { s.lane (s.laneOf d) with quietLock := (x.lane (s.laneOf d)).quietLock } ∧
        x.record (s.laneOf d) = s.record (s.laneOf d) ∧ x.inc = s.inc ∧ x.port = (s.latch 0x04).port) ∧
    ((s.duty d).inFlight = true → (s.duty d).state = .running ∨ (s.duty d).state = .stopped →
      ∃ t : State, exec .retireDuty s = .next t ∧
        ((s.duty d).state = .running →
          t.duty d = { s.duty d with
            state := .stopped, ticket := false, catchUp := false, forced := false, nextBoundary := none
            retirePending := true } ∧
          t.list (s.laneOf d) = (s.list (s.laneOf d)).filter (fun e => e ≠ d)) ∧
        ((s.duty d).state = .stopped →
          t.duty d = { s.duty d with retirePending := true } ∧ t.list (s.laneOf d) = s.list (s.laneOf d)) ∧
        s.sameBeside t d (s.laneOf d) ∧ t.lane (s.laneOf d) = s.lane (s.laneOf d) ∧
        t.record (s.laneOf d) = s.record (s.laneOf d) ∧ (∀ k, t.lock k = s.lock k) ∧ t.inc = s.inc ∧
        t.port = { s.port with latched := s.port.staging, code := 0x04, state := .working })

/-- R13 to R16, R64, R75, R82, R83, R126, R168, R171: the ends of a waiting RETIRE DUTY. Every outcome of its duty's
transaction, by a check byte, the Response deadline, a status read, an address or a request byte that is not acknowledged, or a
hold of the clock line, vacates the duty and records DONE; ABORT clears Retire pending, leaves the transaction in flight and
records ABORTED. When a status may be read again is DEDUCED (log 7), and so are that a quiet time carries no lock of a vacated
duty (log 13) and which duty ABORT finds waiting (log 15). -/
def Obligations.WaitingRetireEnds : Prop :=
  (∀ (s : State) (l : LaneIx) (r : InFlight) (d : DutyIx), s.retires l r d →
      (∀ v : Byte, (s.lane l).clockHeld = false → r.phase = .response → s.expectedData r ≤ r.data.length →
        (v = checkOf (r.status.getD 0 :: r.data) →
          ∃ (x : State) (u : IncidentUnit), leaves (.checkByte l v) s x [l] ∧ s.retiredQuietly x l d u 0 ∧
            ((r.status = some 0x61 → (s.duty d).defn.compare = true →
                matchesUnder ((s.duty d).defn.expected.getD []) ((s.duty d).defn.mask.getD []) r.data) →
              u = s.inc) ∧
            (r.status = some 0x61 → (s.duty d).defn.compare = true →
              ¬matchesUnder ((s.duty d).defn.expected.getD []) ((s.duty d).defn.mask.getD []) r.data →
              u = s.inc.pass
                { kind := .deviation, epoch := s.now, lane := l, target := r.target, duty := some d
                  attempt := some r.attempt, status := some 0x61, data := some r.data })) ∧
        (v ≠ checkOf (r.status.getD 0 :: r.data) →
          ∃ x : State, leaves (.checkByte l v) s x [l] ∧ s.retiredAndSuspended x l d r)) ∧
      (r.deadline.toNat ≤ s.now.toNat → r.phase = .wait ∨ (s.lane l).clockHeld = true →
        ∃ x : State, leaves (.responseDeadline l) s x [l] ∧ s.retiredQuietly x l d s.inc (s.lane l).integrityCount) ∧
      (∀ v : Byte, (s.lane l).clockHeld = false → r.phase = .request ∨ (r.phase = .wait ∧ r.tickSinceRead = true) →
        (v = 0x00 → r.phase = .request → r.deadlinePassed = true →
          ∃ x : State, leaves (.statusRead l v) s x [l] ∧ s.retiredQuietly x l d s.inc (s.lane l).integrityCount) ∧
        (v = 0xFF → (s.lane l).mode = .select → r.phase = .request →
          ∃ x : State, leaves (.statusRead l v) s x [l] ∧ s.retiredQuietly x l d s.inc (s.lane l).integrityCount) ∧
        (v ≠ 0x00 → v ≠ 0x61 → v ≠ 0x62 → v ≠ 0x63 → v ≠ 0xFF ∨ (s.lane l).mode = .addressed ∨ r.phase = .wait →
          ∃ x : State, leaves (.statusRead l v) s x [l] ∧ s.retiredAndSuspended x l d { r with status := some v })) ∧
      ((s.lane l).clockHeld = false → (s.lane l).mode = .addressed →
        r.phase = .request ∨ (r.phase = .wait ∧ r.tickSinceRead = true) →
        ∃ x : State, leaves (.addressNotAcknowledged l) s x [l] ∧
          s.retiredQuietly x l d s.inc (s.lane l).integrityCount) ∧
      ((s.lane l).clockHeld = false → (s.lane l).mode = .addressed → r.phase = .request →
        ∃ x : State, leaves (.requestByteRefused l) s x [l] ∧
          s.retiredQuietly x l d s.inc (s.lane l).integrityCount) ∧
      ((s.lane l).configured = true → (s.lane l).mode = .addressed → r.phase ≠ .wait → r.deadline.toNat ≤ s.now.toNat →
        ∃ x : State, leaves (.clockLineHold l) s x [l] ∧ (x.lane l).lineHeld = true ∧ (x.lane l).stopWaiting = true ∧
          (x.lane l).pins.dout = .low ∧ (x.lane l).pins.clk = .released ∧
          s.retiredQuietly x l d s.inc (s.lane l).integrityCount)) ∧
    (∀ (s : State) (d : DutyIx), s.port.state = .working → s.waitingDuty = d →
      exec .abort s =
        .next { s.setDuty d { s.duty d with retirePending := false } with
          port := { s.port with latched := s.port.staging, code := 0x30, result := .aborted, state := .ready }
          inc := s.inc.setCommand }) ∧
    ∀ (s : State) (d : DutyIx), stagedIndex s.port.latched = d.val → s.waitingDuty = d

/-- R22, R47, R60, R87, R113, R114, R141, R162, R173 to R175, Table 5-4: SCHEDULER RESET, in READY and in WORKING alike. Its
STRANDED incidents stand alone in the queue, in order of target Index, numbered from 0, and the sequence counter stands at their
number. -/
def Obligations.SchedulerResetEmptiesTheSchedule : Prop :=
  ∀ s : State, ∃ t : State, exec .schedulerReset s = .next t ∧ (∀ d, t.duty d = {}) ∧ (∀ l, t.list l = []) ∧
    (∀ k, t.lock k = none) ∧ (∀ l, t.record l = none) ∧
    (∀ g, (s.target g).holdTransaction = .entryInFlight ∨ (s.target g).holdTransaction = .exitInFlight →
      t.target g = { s.target g with
        holdState := .stranded, holdTransaction := .none, releasePending := false, deadlineKind := .none
        deadline := none }) ∧
    (∀ g, (s.target g).holdTransaction = .entryPending → (s.target g).holdState = .entering →
      t.target g = { s.target g with
        holdState := .active, holdTransaction := .none, holdAttempts := 0, releasePending := false }) ∧
    (∀ g, (s.target g).holdTransaction = .none ∨ (s.target g).holdTransaction = .exitPending →
      (s.target g).holdState ≠ .entering → t.target g = { s.target g with releasePending := false }) ∧
    (∀ l, t.lane l = { s.lane l with
      gate := .closed, activity := .idle, blackoutEnd := none, recoveryEnd := none, yielding := false, latched := false
      quietEnd := none, quietLock := none, integrityCount := 0, pins := (s.lane l).idlePins, stopWaiting := false }) ∧
    t.time = s.time ∧ t.busRead = s.busRead ∧
    t.port = { s.port with latched := s.port.staging, code := 0x31, result := .done, state := .ready } ∧
    t.inc.enable = s.inc.enable ∧ t.inc.summary.lane = false ∧ t.inc.summary.command = true ∧
    t.inc.summary.hold = !s.holdsInFlight.isEmpty ∧
    t.inc.sequence = BitVec.ofNat 16 s.holdsInFlight.length ∧ t.inc.summary.incident = !s.holdsInFlight.isEmpty ∧
    (s.holdsInFlight.length ≤ 16 → t.inc.summary.overflow = false ∧
      t.inc.queue.map (fun i => { i with sequence := 0 }) =
        s.holdsInFlight.map (fun g =>
          { kind := .stranded, reason := some .abandoned, epoch := s.now, lane := (s.target g).defn.lane, target := g
            attempt := some ((s.target g).holdAttempts + 1) }) ∧
      t.inc.queue.map (·.sequence) = (List.range s.holdsInFlight.length).map (BitVec.ofNat 16)) ∧
    s.holdsInFlight = allTargets.filter fun g =>
      decide ((s.target g).holdTransaction = .entryInFlight) || decide ((s.target g).holdTransaction = .exitInFlight)

-- RESET, power-on and the register window

/-- R21, R47, R60, R112, R115, R140, R149, R161, R163: RESET and power-on. That the clock line stays as the target drives it is
the model's choice (DESIGN CHOICE, log 9), and that a lane record of zeros is SELECT, MSB-FIRST and LOW is DEDUCED (log 11). -/
def Obligations.ResetsSetEveryBlock : Prop :=
  ∀ s : State, ∃ t u : State, exec .reset s = .next t ∧ exec .powerOn s = .next u ∧
    (∀ v : State, v = t ∨ v = u →
      (∀ d, v.duty d = {}) ∧ (∀ g, v.target g = {}) ∧ (∀ l, v.lane l = { lineHeld := (s.lane l).lineHeld }) ∧
        (∀ l, v.list l = []) ∧ (∀ k, v.lock k = none) ∧ (∀ l, v.record l = none) ∧ v.inc = {} ∧ v.port = {}) ∧
    t.time = s.time ∧ u.time = {} ∧ u.time.epoch = 0 ∧ u.time.tickLength = 4 ∧ u.time.windowInForce = .w20

/-- R170: a write to PORT_CLEAR clears Collision and changes nothing else; the resets and Collision. -/
def Obligations.PortClearClearsCollision : Prop :=
  (∀ (v : Word) (s : State), exec (.portClear v) s = .next { s with port := { s.port with collision := false } }) ∧
    (∀ s t : State, exec .schedulerReset s = .next t → t.port.collision = s.port.collision) ∧
    ∀ s t : State, exec .reset s = .next t ∨ exec .powerOn s = .next t → t.port.collision = false

/-- R152, R153, R155 to R160, R179, R182: what an incident and a cause do to the incident unit, writes to INCIDENT_POP,
EVENT_SUMMARY and EVENT_ENABLE, and what the host reads of the unit: the summary, the count, and the head record in the words
and bits of Table 10-7. -/
def Obligations.IncidentRegisterWrites : Prop :=
  (∀ (v : Word) (s : State), ∃ t : State, exec (.incidentPop v) s = .next t ∧ t.inc.queue = s.inc.queue.drop 1 ∧
      t.inc.sequence = s.inc.sequence ∧ t.inc.enable = s.inc.enable ∧
      t.inc.summary = { s.inc.summary with incident := decide (1 < s.inc.queue.length) } ∧
      t.inc.irq = anyEnabled t.inc.summary t.inc.enable ∧ { t with inc := s.inc } = s) ∧
    (∀ (v : Word) (s : State), ∃ t : State, exec (.eventSummaryWrite v) s = .next t ∧ t.inc.queue = s.inc.queue ∧
      t.inc.sequence = s.inc.sequence ∧ t.inc.enable = s.inc.enable ∧ t.inc.summary.incident = !s.inc.queue.isEmpty ∧
      t.inc.summary.overflow = (s.inc.summary.overflow && !v.getLsbD 1) ∧
      t.inc.summary.command = (s.inc.summary.command && !v.getLsbD 2) ∧
      t.inc.summary.lane = (s.inc.summary.lane && !v.getLsbD 3) ∧
      t.inc.summary.hold = (s.inc.summary.hold && !v.getLsbD 4) ∧
      t.inc.irq = anyEnabled t.inc.summary t.inc.enable ∧ { t with inc := s.inc } = s) ∧
    (∀ (v : Word) (s : State), ∃ t : State, exec (.eventEnableWrite v) s = .next t ∧ t.inc.queue = s.inc.queue ∧
      t.inc.sequence = s.inc.sequence ∧ t.inc.summary = { s.inc.summary with incident := !s.inc.queue.isEmpty } ∧
      t.busReads 0x49 = v &&& 0x001F ∧ t.inc.irq = anyEnabled t.inc.summary t.inc.enable ∧ { t with inc := s.inc } = s) ∧
    (∀ s : State, (s.busReads 0x48).toNat =
      (if s.inc.summary.incident = true then 1 else 0) + (if s.inc.summary.overflow = true then 2 else 0) +
        (if s.inc.summary.command = true then 4 else 0) + (if s.inc.summary.lane = true then 8 else 0) +
        (if s.inc.summary.hold = true then 16 else 0)) ∧
    (∀ s : State, s.inc.queue.length ≤ 16 → (s.busReads 0x46).toNat = s.inc.queue.length) ∧
    (∀ (s : State) (i : Incident) (rest : List Incident), s.inc.queue = i :: rest → s.windowShows i) ∧
    (∀ s : State, s.inc.queue = [] → ∀ k < 14, s.busReads (BitVec.ofNat 7 (0x38 + k)) = 0) ∧
    [IncidentKind.dutyFaulted, .integrity, .deviation, .overdue, .holdFailed, .stranded, .holdExpired].map
      IncidentKind.code = [1, 2, 3, 4, 5, 6, 7] ∧
    [Reason.noAnswer, .timeout, .rejected, .integrity, .busyLimit, .abandoned].map Reason.code = [1, 2, 3, 4, 5, 6] ∧
    (∀ (u : IncidentUnit) (i : Incident), u.hasPassed (u.pass i) i) ∧
    (∀ u : IncidentUnit, u.hasSummary u.setCommand { u.summary with command := true } ∧
      u.hasSummary u.setLane { u.summary with lane := true } ∧ u.hasSummary u.setHold { u.summary with hold := true }) ∧
    ∀ a b : Causes, anyEnabled a b = true ↔
      (a.incident = true ∧ b.incident = true) ∨ (a.overflow = true ∧ b.overflow = true) ∨
        (a.command = true ∧ b.command = true) ∨ (a.lane = true ∧ b.lane = true) ∨ (a.hold = true ∧ b.hold = true)

/-- R145, R179: writes to TRIM_VALUE and TRIM_WINDOW set the written settings, the window by the codes of Table 10-4, are read
back, and leave the settings in force; RESET and SCHEDULER RESET keep them. -/
def Obligations.TrimWrites : Prop :=
  (∀ (v : Word) (s : State), ∃ (t : State) (w : Int), exec (.trimValueWrite v) s = .next t ∧
      t.time = { s.time with writtenTrim := w } ∧ (v.toInt > 1023 → w = 1023) ∧ (v.toInt < -1024 → w = -1024) ∧
      (-1024 ≤ v.toInt → v.toInt ≤ 1023 → w = v.toInt) ∧ (t.busReads 0x53).toInt = w ∧ { t with time := s.time } = s) ∧
    (∀ (v : Word) (s : State), ∃ t : State, exec (.trimWindowWrite v) s = .next t ∧
      (v.toNat % 4 ≠ 3 → t.time = { s.time with writtenWindow := t.time.writtenWindow } ∧
        (t.busReads 0x54).toNat = v.toNat % 4) ∧
      (v.toNat % 4 = 0 → t.time.writtenWindow = .w18) ∧ (v.toNat % 4 = 1 → t.time.writtenWindow = .w20) ∧
      (v.toNat % 4 = 2 → t.time.writtenWindow = .w22) ∧
      (v.toNat % 4 = 3 → t = s) ∧ { t with time := s.time } = s) ∧
    ∀ s t : State, exec .reset s = .next t ∨ exec .schedulerReset s = .next t →
      t.time.writtenTrim = s.time.writtenTrim ∧ t.time.writtenWindow = s.time.writtenWindow

/-- R147: a read of EPOCH_LO returns the low part and latches the other two, so that the parts read LO, then MID and HI make one
epoch value; only power-on and another read of EPOCH_LO change the latch. -/
def Obligations.EpochReadIsWhole : Prop :=
  (∀ s : State, ∃ t : State, exec .epochLoRead s = .next t ∧
      t = { s with
        busRead := epochWord s.time.epoch 0
        time := { s.time with latchMid := epochWord s.time.epoch 1, latchHi := epochWord s.time.epoch 2 } } ∧
      t.busReads 0x51 = epochWord s.time.epoch 1 ∧ t.busReads 0x52 = epochWord s.time.epoch 2 ∧
      epochOfWords t.busRead (t.busReads 0x51) (t.busReads 0x52) = s.time.epoch) ∧
    (∀ (c : Instr) (s t : State), c ≠ .epochLoRead → c ≠ .powerOn → exec c s = .next t →
      t.busReads 0x51 = s.busReads 0x51 ∧ t.busReads 0x52 = s.busReads 0x52) ∧
    ∀ s t : State, exec .powerOn s = .next t → t.busReads 0x51 = 0 ∧ t.busReads 0x52 = 0

/-- R165, R177: a write to a staging word stores it and is read back, a write anywhere without a row of its own is ignored, and
unmapped offsets and write-only registers read 0. -/
def Obligations.RegisterWriteStoresStaging : Prop :=
  (∀ (n : Fin 32) (v : Word) (s : State), ∃ t : State, exec (.registerWrite (BitVec.ofNat 7 (8 + n.val)) v) s = .next t ∧
      (∀ m : Fin 32, t.busReads (BitVec.ofNat 7 (8 + m.val)) =
        if m = n then v else s.busReads (BitVec.ofNat 7 (8 + m.val))) ∧
      { t with port := s.port } = s ∧ { t.port with staging := s.port.staging } = s.port) ∧
    (∀ (reg : BitVec 7) (v : Word) (s : State), reg.toNat < 8 ∨ 0x27 < reg.toNat → Instr.wf (.registerWrite reg v) = true →
      exec (.registerWrite reg v) s = .next s) ∧
    ∀ (s : State) (reg : BitVec 7),
      (1 ≤ reg.toNat ∧ reg.toNat ≤ 7) ∨ reg.toNat = 0x47 ∨ (0x4A ≤ reg.toNat ∧ reg.toNat ≤ 0x4F) ∨
        (0x55 ≤ reg.toNat ∧ reg.toNat ≤ 0x57) ∨ 0x5C ≤ reg.toNat →
      s.busReads reg = 0

/-- R164, R177: every write on the bus is one row of the table, well formed, and does what the window does at that address. -/
def Obligations.BusWriteIsItsRow : Prop :=
  ∀ (s : State) (reg : BitVec 7) (v : Word),
    Instr.wf (s.rowOfWrite reg v) = true ∧ exec (s.rowOfWrite reg v) s = .next (s.busWrite reg v)

-- The time base

/-- R142, R143, R146, R149, R150: a REFCLK cycle that ends no part. The window position rises by one, or a window starts; a tick
in progress goes on, or completes: the epoch rises by one and saturates, and the next tick takes the adjustment due. Between two
power-ons the epoch never decreases, and only a REFCLK cycle moves it. That TICK_COMPLETION is the whole cycle at which a tick
completes is DEDUCED (log 5), and so is the mark that it leaves in the records of lanes that wait (log 7). -/
def Obligations.RefclkCycleCountsTicks : Prop :=
  (∀ (s : State) (w : TimeBase), s.time.sound → s.time.endsPart = false →
      (s.time.position + 1 < s.time.windowInForce.cycles → w = { s.time with position := s.time.position + 1 }) →
      (s.time.position + 1 = s.time.windowInForce.cycles →
        w = { s.time with
          position := 0, windowInForce := s.time.writtenWindow, trimInForce := s.time.writtenTrim
          partLength :=
            if s.time.writtenTrim = 0 then 0 else s.time.writtenWindow.cycles / s.time.writtenTrim.natAbs }) →
      (s.time.phase + 1 < s.time.tickLength →
        exec .refclkCycle s = .next { s with time := { w with phase := s.time.phase + 1 } }) ∧
      (s.time.phase + 1 = s.time.tickLength →
        ∃ t : State, exec .refclkCycle s = .next t ∧ exec .tickCompletion s = .next t ∧
          t.time = { w with
            phase := 0, adjustment := .none, epoch := t.time.epoch, tickLength := t.time.tickLength } ∧
          t.time.epoch.toNat = min (s.time.epoch.toNat + 1) (2 ^ 48 - 1) ∧
          (s.time.adjustment = .remove → t.time.tickLength = 3) ∧ (s.time.adjustment = .insert → t.time.tickLength = 5) ∧
          (s.time.adjustment = .none → t.time.tickLength = 4) ∧
          (∀ l, t.record l =
            if (s.lane l).clockHeld = true then s.record l
            else (s.record l).map fun r => { r with tickSinceRead := true }) ∧
          { t with time := s.time, records := s.records } = s)) ∧
    (∀ s : State, s.time.phase + 1 = s.time.tickLength → exec .tickCompletion s = exec .refclkCycle s) ∧
    ∀ (c : Instr) (s t : State), c ≠ .powerOn → exec c s = .next t →
      t.time.epoch = s.time.epoch ∨
        (t.time.epoch.toNat = s.time.epoch.toNat + 1 ∧
          (c = .refclkCycle ∨ c = .tickCompletion ∨ c = .windowStart ∨ c = .partEnd))

/-- R143, R144: the cycle at which a window starts takes the written settings, and the last cycle of a part sets the adjustment
due, which the tick that begins at that cycle takes; the whole of the time base is given, with the window that starts or goes on
and the tick that completes or goes on. That each row is that whole REFCLK cycle is DEDUCED (log 5), and so is the mark in the
records of lanes that wait (log 7). -/
def Obligations.WindowStartAndPartEnd : Prop :=
  (∀ s : State, s.time.sound → s.time.position + 1 = s.time.windowInForce.cycles →
      ∃ t : State, exec .windowStart s = .next t ∧ exec .refclkCycle s = .next t ∧ t.time.position = 0 ∧
        t.time.windowInForce = s.time.writtenWindow ∧ t.time.trimInForce = s.time.writtenTrim ∧
        (s.time.writtenTrim = 0 → t.time.partLength = 0) ∧
        (s.time.writtenTrim ≠ 0 → t.time.partLength = s.time.writtenWindow.cycles / s.time.writtenTrim.natAbs) ∧
        { t with time := s.time, records := s.records } = s) ∧
    ∀ (s : State) (k : Nat) (w : TimeBase), s.time.sound → 1 ≤ k → k ≤ s.time.trimInForce.natAbs →
      s.time.position + 1 = k * s.time.partLength →
      (s.time.position + 1 < s.time.windowInForce.cycles → w = { s.time with position := s.time.position + 1 }) →
      (s.time.position + 1 = s.time.windowInForce.cycles →
        w = { s.time with
          position := 0, windowInForce := s.time.writtenWindow, trimInForce := s.time.writtenTrim
          partLength :=
            if s.time.writtenTrim = 0 then 0 else s.time.writtenWindow.cycles / s.time.writtenTrim.natAbs }) →
      ∃ t : State, exec .partEnd s = .next t ∧ exec .refclkCycle s = .next t ∧
        (s.time.phase + 1 < s.time.tickLength →
          t = { s with time := { w with
            phase := s.time.phase + 1, adjustment := if 0 < s.time.trimInForce then .remove else .insert } }) ∧
        (s.time.phase + 1 = s.time.tickLength →
          t.time = { w with
            phase := 0, adjustment := .none, epoch := t.time.epoch
            tickLength := if 0 < s.time.trimInForce then 3 else 5 } ∧
          t.time.epoch.toNat = min (s.time.epoch.toNat + 1) (2 ^ 48 - 1) ∧
          (∀ l, t.record l =
            if (s.lane l).clockHeld = true then s.record l
            else (s.record l).map fun r => { r with tickSinceRead := true })) ∧
        { t with time := s.time, records := s.records } = s

/-- R143, R144, Table 7-1: a window whose trim in force is T has exactly |T| ends of parts among its cycles, the last cycles of
parts 1 to |T|; and the lengths of the windows and of a part. -/
def Obligations.WindowHasOneEndForEachPart : Prop :=
  (∀ t : TimeBase, t.sound →
    (Finset.filter (fun p => TimeBase.endsPart { t with position := p } = true) (Finset.range t.windowInForce.cycles)).card =
      t.trimInForce.natAbs) ∧
    (∀ t : TimeBase, t.endsPart = true ↔
      ∃ k, 1 ≤ k ∧ k ≤ t.trimInForce.natAbs ∧ t.position + 1 = k * t.partLength) ∧
    [TrimWindow.w18, .w20, .w22].map TrimWindow.cycles = [2 ^ 18, 2 ^ 20, 2 ^ 22] ∧
    ∀ (w : TrimWindow) (trim : Int), (trim = 0 → partLengthOf w trim = 0) ∧
      (trim ≠ 0 → partLengthOf w trim = w.cycles / trim.natAbs)

-- Deadlines of duties

/-- R25, R27 to R29, R31, R42: a boundary of an accruing duty, below its limit or at it; when a duty accrues, the setting of a
Next boundary, and when an offer places a ticket. -/
def Obligations.BoundaryRaisesOwedOrMisses : Prop :=
  (∀ (s : State) (d : DutyIx) (b : Epoch), s.accrues d = true → (s.duty d).nextBoundary = some b → b.toNat ≤ s.now.toNat →
    (s.duty d).owedSound →
    ∃ x : State, leaves (.boundary d) s x [s.laneOf d] ∧
      (0 ≤ (s.duty d).owed → (s.duty d).owed ≤ (s.duty d).defn.deferLimit →
        s.dutyChanged x d
          { s.duty d with nextBoundary := boundaryAfter b (s.duty d).defn.interval, owed := (s.duty d).owed + 1 }
          ((s.duty d).owed = (s.duty d).defn.deferLimit)) ∧
      ((s.duty d).owed < 0 →
        x = s.setDuty d
          { s.duty d with nextBoundary := boundaryAfter b (s.duty d).defn.interval, owed := (s.duty d).owed + 1 }) ∧
      ((s.duty d).owed = (s.duty d).defn.deferLimit + 1 →
        s.sameBeside x d (s.laneOf d) ∧
          s.ticketOffered x d (s.laneOf d)
            { s.duty d with
              nextBoundary := boundaryAfter b (s.duty d).defn.interval
              overdue := true
              misses := min ((s.duty d).misses + 1) (max (s.duty d).misses 65535) } ∧
          x.lane (s.laneOf d) = s.lane (s.laneOf d) ∧ x.record (s.laneOf d) = s.record (s.laneOf d) ∧
          (∀ k, x.lock k = s.lock k) ∧ x.port = s.port ∧ ((s.duty d).overdue = true → x.inc = s.inc) ∧
          ((s.duty d).overdue = false → x.inc = s.inc.pass
            { kind := .overdue, epoch := s.now, lane := s.laneOf d, target := (s.duty d).defn.target, duty := some d }))) ∧
    (∀ (s : State) (d : DutyIx), s.accrues d = true ↔
      (s.duty d).state = .running ∧ (s.targetOf d).holdState.accruing = true) ∧
    (∀ h : HoldState, h.accruing = true ↔ h = .active ∨ h = .entering ∨ h = .settling) ∧
    (∀ (e : Epoch) (interval : Nat),
      (e.toNat + interval ≤ 2 ^ 48 - 1 → ∃ b, boundaryAfter e interval = some b ∧ b.toNat = e.toNat + interval) ∧
      (2 ^ 48 - 1 < e.toNat + interval → boundaryAfter e interval = none)) ∧
    ∀ x : Duty,
      (x.wantsIssue = true ↔ 1 ≤ x.owed ∨ x.catchUp = true ∨ x.forced = true) ∧
      (x.getsTicket = true ↔ x.state = .running ∧ x.wantsIssue = true ∧ x.ticket = false ∧ x.inFlight = false) ∧
      (x.getsTicket = true → x.offered = { x with ticket := true }) ∧ (x.getsTicket = false → x.offered = x)

/-- R11, R12: STOP DUTY and the Stop time. -/
def Obligations.StopSuspendsTheDuty : Prop :=
  ∀ (s : State) (d : DutyIx),
    (s.duty d).state = .running ∨ (s.duty d).state = .waiting ∨ (s.duty d).state = .faulted →
    (s.port.state = .ready → stagedIndex s.port.staging = d.val →
      ∃ x : State, doneFrom .stopDuty s x [s.laneOf d] ∧ s.stoppedAs x d ∧ x.port = (s.latch 0x03).port) ∧
    ∀ e : Epoch, (s.duty d).defn.stopTime = some e → e.toNat ≤ s.now.toNat →
      ∃ x : State, leaves (.stopTime d) s x [s.laneOf d] ∧ s.stoppedAs x d ∧ x.port = s.port

/-- R50, R53, R96: a backoff end and a minimum hold end change no field; where the lane may issue, the look they prompt issues
its first candidate, and otherwise nothing happens. -/
def Obligations.EndsThatOnlyPromptALook : Prop :=
  (∀ (s : State) (d : DutyIx) (e : Epoch), (s.duty d).backoffUntil = some e → e.toNat ≤ s.now.toNat →
      leaves (.backoffEnd d) s s [s.laneOf d] ∧
        (s.mayIssue (s.laneOf d) = false → exec (.backoffEnd d) s = .next s) ∧
        ∀ c, s.mayIssue (s.laneOf d) = true → s.choose (s.laneOf d) = some c →
          exec (.backoffEnd d) s = .next (s.issue (s.laneOf d) c)) ∧
    ∀ (s : State) (g : TargetIx) (e : Epoch), (s.target g).holdState = .leaving → (s.target g).deadlineKind = .minimum →
      (s.target g).deadline = some e → e.toNat ≤ s.now.toNat →
      leaves (.minimumHoldEnd g) s s [(s.target g).defn.lane] ∧
        (s.mayIssue (s.target g).defn.lane = false → exec (.minimumHoldEnd g) s = .next s) ∧
        ∀ c, s.mayIssue (s.target g).defn.lane = true → s.choose (s.target g).defn.lane = some c →
          exec (.minimumHoldEnd g) s = .next (s.issue (s.target g).defn.lane c)

-- The dispatcher

/-- R48 to R51, R53 to R56: what a look chooses, that it chooses nothing only when there is no candidate, and, by their fields,
the lane that may issue, the exits and the entries that are ready, the classes of tickets, the tickets that are eligible, and
the advance candidates. -/
def Obligations.LookTakesTheFirstCandidate : Prop :=
  (∀ (s : State) (l : LaneIx),
    match s.choose l with
    | some (.exit g) => s.exitReady l g = true ∧ ∀ h, h < g → s.exitReady l h = false
    | some (.entry g) =>
      (∀ h, s.exitReady l h = false) ∧ s.entryReady l g = true ∧ ∀ h, h < g → s.entryReady l h = false
    | some (.duty d) =>
      (∀ h, s.exitReady l h = false ∧ s.entryReady l h = false) ∧
        ((∃ a b, s.list l = a ++ d :: b ∧ s.pressedTicket d = true ∧ ∀ e ∈ a, s.pressedTicket e = false) ∨
          ((∀ e ∈ s.list l, s.pressedTicket e = false) ∧
            ∃ a b, s.list l = a ++ d :: b ∧ s.dueTicket d = true ∧ ∀ e ∈ a, s.dueTicket e = false) ∨
          ((∀ e ∈ s.list l, s.eligible e = false) ∧ s.advanceCandidate l d = true ∧
            ∀ e, s.advanceCandidate l e = true →
              (s.duty e).owed < (s.duty d).owed ∨ ((s.duty e).owed = (s.duty d).owed ∧ d ≤ e)))
    | none =>
      (∀ h, s.exitReady l h = false ∧ s.entryReady l h = false) ∧ (∀ e ∈ s.list l, s.eligible e = false) ∧
        ∀ e, s.advanceCandidate l e = false) ∧
    (∀ (s : State) (l : LaneIx),
      (s.mayIssue l = true ↔ (s.lane l).gate = .opened ∧ (s.lane l).activity = .idle) ∧
      ∀ g, (s.exitReady l g = true ↔ s.exitReadyByFields l g) ∧ (s.entryReady l g = true ↔ s.entryReadyByFields l g)) ∧
    (∀ (s : State) (d : DutyIx),
      (s.eligible d = true ↔ s.eligibleByFields d) ∧
      (s.pressedTicket d = true ↔ (s.duty d).owed = (s.duty d).defn.deferLimit + 1 ∧ s.eligibleByFields d) ∧
      (s.dueTicket d = true ↔ (s.duty d).owed ≠ (s.duty d).defn.deferLimit + 1 ∧ s.eligibleByFields d) ∧
      ((s.duty d).owedSound → (s.duty d).wantsIssue = true →
        (s.dueTicket d = true ↔
          ((1 ≤ (s.duty d).owed ∧ (s.duty d).owed ≤ (s.duty d).defn.deferLimit) ∨
              (((s.duty d).catchUp = true ∨ (s.duty d).forced = true) ∧
                (s.duty d).owed < (s.duty d).defn.deferLimit + 1)) ∧
            s.eligibleByFields d))) ∧
    ∀ (s : State) (l : LaneIx) (d : DutyIx), s.advanceCandidate l d = true ↔ s.advanceByFields l d

/-- R39, R46, R58, R60, R69, R98, R132, R139: the issue of a duty and of a hold transaction, with the whole record of each, and
the pins at which its frame begins. The pins are those between bits (DESIGN CHOICE, log 12). -/
def Obligations.IssueBuildsTheRecord : Prop :=
  (∀ (s : State) (l : LaneIx) (d : DutyIx), s.laneOf d = l →
      ∃ (t : State) (r : InFlight), t = s.issue l (.duty d) ∧ t.record l = some r ∧ r.kind = .duty d ∧
        r.target = (s.duty d).defn.target ∧ r.attempt = (s.duty d).attempts + 1 ∧ r.forcedMark = (s.duty d).forced ∧
        r.issueEpoch = s.now ∧
        r.deadline.toNat = min (s.now.toNat + (s.targetOf d).defn.responseTimeout) (2 ^ 48 - 1) ∧ r.phase = .request ∧
        r.deadlinePassed = false ∧ r.status = none ∧ r.data = [] ∧
        t.duty d = { s.duty d with ticket := false, inFlight := true } ∧ s.sameBeside t d l ∧
        t.list l = (s.list l).filter (fun e => e ≠ d) ∧
        t.lane l = { s.lane l with activity := .busy, pins := (t.lane l).pins } ∧
        (s.lane l).issuePins (s.targetOf d).defn.address (t.lane l).pins ∧
        (∀ k, t.lock k = if s.lockOf d = some k then some d else s.lock k) ∧ t.inc = s.inc ∧ t.port = s.port) ∧
    ∀ (s : State) (l : LaneIx) (g : TargetIx),
      s.holdIssued (s.issue l (.entry g)) l g .holdEntry .entryInFlight ∧
        s.holdIssued (s.issue l (.exit g)) l g .holdExit .exitInFlight

/-- R57, R61: among the lanes of the looks of one event, the one whose candidate claims a FREE lock that no lower-numbered lane
claims is granted, and the duties of the others that claim it are not issued by that event. Every lane whose first candidate
needs no lock, or whose claim no lower-numbered lane makes, issues it; after these grants the lanes refused look again, and so on,
and in the end no lane of them that may issue has a candidate left (R54, R57, R61). A look at one lane issues its first
candidate, and a release of a lock prompts looks at every lane (R53, R58, R62). That the looks of one event claim together is
DEDUCED (log 14). -/
def Obligations.LowestLaneGetsTheLock : Prop :=
  (∀ (s : State) (ls : List LaneIx) (l : LaneIx) (d : DutyIx) (k : LockIx), l ∈ ls → s.mayIssue l = true →
    s.choose l = some (.duty d) → s.lockOf d = some k →
    (∀ m ∈ ls, m < l → s.mayIssue m = true → ∀ e, s.choose m = some (.duty e) → s.lockOf e ≠ some k) →
    (s.looks ls).lock k = some d ∧ (∃ r, (s.looks ls).record l = some r ∧ r.kind = .duty d) ∧
      ∀ m ∈ ls, s.mayIssue m = true → ∀ e, s.choose m = some (.duty e) → s.lockOf e = some k → e ≠ d →
        (s.looks ls).duty e = s.duty e) ∧
    (∀ (s : State) (d : DutyIx) (k : LockIx), s.lockOf d = some k ↔ (s.duty d).defn.shareGroup = k.val + 1) ∧
    (∀ (s : State) (d : DutyIx), s.holdsLock d = true ↔ ∃ k, s.lockOf d = some k ∧ s.lock k = some d) ∧
    (∀ (s : State) (l : LaneIx), (s.mayIssue l = false ∨ s.choose l = none → s.looks [l] = s) ∧
      ∀ c, s.mayIssue l = true → s.choose l = some c → s.looks [l] = s.issue l c) ∧
    (∀ (s : State) (ls : List LaneIx),
      s.looks ls =
          ((ls.filter fun l => s.mayIssue l && !s.claimLost ls l).foldl s.issueFirst s).looks
            (ls.filter fun l => s.mayIssue l && s.claimLost ls l) ∧
        (∀ l c, l ∈ ls → s.mayIssue l = true → s.choose l = some c → s.claimLost ls l = false →
          (s.looks ls).record l = (s.issue l c).record l ∧ (s.looks ls).lane l = (s.issue l c).lane l) ∧
        (∀ l c, s.choose l = some c →
          (∃ g, c = .exit g ∨ c = .entry g) ∨ (∃ d, c = .duty d ∧ (s.duty d).defn.shareGroup = 0) →
          s.claimLost ls l = false) ∧
        ∀ l ∈ ls, (s.looks ls).mayIssue l = true → (s.looks ls).choose l = none) ∧
    ∀ (s x : State) (ls : List LaneIx),
      ((∃ k, s.lock k ≠ none ∧ x.lock k = none) → x.looksAfter s ls = x.looks [0, 1, 2, 3]) ∧
      ((∀ k, s.lock k ≠ none → x.lock k ≠ none) → x.looksAfter s ls = x.looks ls)

-- Deadlines of lanes

/-- R13, R71, R79, R80, R84: the Response deadline in REQUEST, in WAIT and in RESPONSE; where it ends the transaction, with
retries left, spent, and of a STOPPED duty. -/
def Obligations.ResponseDeadlineByPhase : Prop :=
  ∀ (s : State) (l : LaneIx) (r : InFlight), s.record l = some r → r.deadline.toNat ≤ s.now.toNat →
    ((s.lane l).clockHeld = false → r.phase = .request →
      exec (.responseDeadline l) s = .next (s.setRecord l (some { r with deadlinePassed := true }))) ∧
    ((s.lane l).clockHeld = false → r.phase = .response → exec (.responseDeadline l) s = .next s) ∧
    ∀ d, s.serves l r d → r.phase = .wait ∨ (s.lane l).clockHeld = true →
      ∃ x : State, leaves (.responseDeadline l) s x [l] ∧
        s.dutyFails x l d r .timeout .timeout (s.lane l).integrityCount

/-- R65: the quiet end of a lane. -/
def Obligations.QuietEndFreesTheLane : Prop :=
  ∀ (s : State) (l : LaneIx) (e : Epoch), (s.lane l).activity = .quiet → (s.lane l).quietEnd = some e →
    e.toNat ≤ s.now.toNat →
    ∃ x : State, leaves (.quietEnd l) s x [l] ∧
      x.lane l = { s.lane l with activity := .idle, quietEnd := none, quietLock := none } ∧
      (∀ k, x.lock k = if ∃ d, (s.lane l).quietLock = some (k, d) ∧ s.lock k = some d then none else s.lock k) ∧
      (∀ j, j ≠ l → x.lane j = s.lane j) ∧ (∀ d, x.duty d = s.duty d) ∧ (∀ g, x.target g = s.target g) ∧
      (∀ j, x.list j = s.list j ∧ x.record j = s.record j) ∧ x.time = s.time ∧ x.inc = s.inc ∧ x.port = s.port

/-- R122, R123: BLACKOUT LANE, and the two ends of a blackout. -/
def Obligations.BlackoutBeginsAndEnds : Prop :=
  (∀ (s : State) (l : LaneIx), s.port.state = .ready → stagedIndex s.port.staging = l.val →
      1 ≤ stagedLength s.port.staging → (s.lane l).gate = .opened ∨ (s.lane l).gate = .blackout →
      (stagedYield s.port.staging = true →
        ∀ d, (s.duty d).state = .running → s.laneOf d = l → (s.duty d).owed ≠ (s.duty d).defn.deferLimit + 1) →
      exec .blackoutLane s =
        .next (((s.latch 0x23).setLane l
          { s.lane l with
            gate := .blackout
            blackoutEnd := some (satAdd s.now (stagedLength s.port.staging))
            yielding := stagedYield s.port.staging }).recordResult .done)) ∧
    (∀ (s : State) (l : LaneIx), s.port.state = .ready → stagedIndex s.port.staging = l.val →
      ((s.lane l).gate = .blackout →
        doneFrom .resumeLane s
          ((s.latch 0x24).setLane l { s.lane l with gate := .opened, blackoutEnd := none, yielding := false }) [l]) ∧
      ((s.lane l).gate ≠ .blackout → refuses .resumeLane 0x24 s .state)) ∧
    ∀ (s : State) (l : LaneIx) (e : Epoch), (s.lane l).gate = .blackout → (s.lane l).blackoutEnd = some e →
      e.toNat ≤ s.now.toNat →
      leaves (.blackoutEnd l) s
        (s.setLane l { s.lane l with gate := .opened, blackoutEnd := none, yielding := false }) [l]

/-- R128, R129: an auto-resume keeps the count and sets the LANE cause; CLEAR SUSPECT clears the count and does not. -/
def Obligations.SuspensionEnds : Prop :=
  (∀ (s : State) (l : LaneIx) (e : Epoch), (s.lane l).gate = .suspect → (s.lane l).recoveryEnd = some e →
      e.toNat ≤ s.now.toNat →
      leaves (.autoResume l) s
        { s.setLane l { s.lane l with gate := .opened, recoveryEnd := none } with inc := s.inc.setLane } [l]) ∧
    ∀ (s : State) (l : LaneIx), s.port.state = .ready → stagedIndex s.port.staging = l.val →
      ((s.lane l).gate = .suspect →
        doneFrom .clearSuspect s
          ((s.latch 0x25).setLane l
            { s.lane l with gate := .opened, integrityCount := 0, latched := false, recoveryEnd := none }) [l]) ∧
      ((s.lane l).gate ≠ .suspect → refuses .clearSuspect 0x25 s .state)

-- Deadlines of targets

/-- R104, R106, Table 5-4: a maximum-hold end and a settle end. -/
def Obligations.HoldLimitsReached : Prop :=
  (∀ (s : State) (g : TargetIx) (e : Epoch), (s.target g).holdState = .held → (s.target g).deadlineKind = .maximum →
      (s.target g).deadline = some e → e.toNat ≤ s.now.toNat →
      leaves (.maximumHoldEnd g) s
        { s.setTarget g { s.target g with
            holdState := .leaving, holdTransaction := .exitPending, holdAttempts := 0, deadlineKind := .none
            deadline := none } with
          inc := (s.inc.pass
            { kind := .holdExpired, epoch := s.now, lane := (s.target g).defn.lane, target := g }).setHold }
        [(s.target g).defn.lane]) ∧
    ∀ (s : State) (g : TargetIx) (e : Epoch), (s.target g).holdState = .settling → (s.target g).deadlineKind = .settle →
      (s.target g).deadline = some e → e.toNat ≤ s.now.toNat →
      leaves (.settleEnd g) s
        (s.setTarget g { s.target g with holdState := .active, deadlineKind := .none, deadline := none })
        [(s.target g).defn.lane]

-- Frames and outcomes

/-- R70, R71: a first status read, a repeated one, and the data bytes of the response, with their number. That a read of PENDING is repeated only
once a tick has begun since is DEDUCED (log 7). -/
def Obligations.StatusAndDataFollowTheFrame : Prop :=
  (∀ (s : State) (l : LaneIx) (r : InFlight) (v : Byte), s.record l = some r → (s.lane l).clockHeld = false →
      r.phase = .request ∨ (r.phase = .wait ∧ r.tickSinceRead = true) →
      (v = 0x61 ∨ v = 0x62 ∨ v = 0x63 →
        exec (.statusRead l v) s = .next (s.setRecord l (some { r with status := some v, phase := .response }))) ∧
      (v = 0x00 → r.phase = .wait ∨ r.deadlinePassed = false →
        exec (.statusRead l v) s =
          .next (s.setRecord l (some { r with status := some 0x00, phase := .wait, tickSinceRead := false })))) ∧
    (∀ (s : State) (l : LaneIx) (r : InFlight) (d : DutyIx) (v : Byte), s.record l = some r →
      (s.lane l).clockHeld = false → r.phase = .response → r.kind = .duty d → r.status = some 0x61 →
      r.data.length < (s.duty d).defn.readbackLength →
      exec (.dataByte l v) s = .next (s.setRecord l (some { r with data := r.data ++ [v] }))) ∧
    ∀ (s : State) (r : InFlight),
      (∀ d, r.kind = .duty d → r.status = some 0x61 → s.expectedData r = (s.duty d).defn.readbackLength) ∧
      (r.kind = .holdEntry ∨ r.kind = .holdExit ∨ r.status ≠ some 0x61 → s.expectedData r = 0)

/-- R2, R33, R34, R74, R76, R125: DONE with a good check byte, and data that equal the Expected value in every bit where the
Mask holds a one. -/
def Obligations.CreditedOutcome : Prop :=
  ∀ (s : State) (l : LaneIx) (r : InFlight) (d : DutyIx), s.serves l r d → (s.lane l).clockHeld = false →
    r.phase = .response → r.status = some 0x61 → (s.duty d).defn.readbackLength ≤ r.data.length → (s.duty d).owedSound →
    (s.duty d).defn.compare = false ∨
      matchesUnder ((s.duty d).defn.expected.getD []) ((s.duty d).defn.mask.getD []) r.data →
    ∃ x : State, leaves (.checkByte l (checkOf (0x61 :: r.data))) s x [l] ∧ x.inc = s.inc ∧
      s.outcomeTaken x l d ((s.duty d).afterCredit r.forcedMark (s.duty d).owedAfterCredit .credited) (s.lane l).gate 0

/-- R2, R13, R34, R74, R76, R83: DONE with data that differ in a bit where the Mask holds a one is credited too, records its
incident, and faults a RUNNING duty that asks for it. -/
def Obligations.DeviationOutcome : Prop :=
  ∀ (s : State) (l : LaneIx) (r : InFlight) (d : DutyIx), s.serves l r d → (s.lane l).clockHeld = false →
    r.phase = .response → r.status = some 0x61 → (s.duty d).defn.readbackLength ≤ r.data.length → (s.duty d).owedSound →
    (s.duty d).defn.compare = true →
    ¬matchesUnder ((s.duty d).defn.expected.getD []) ((s.duty d).defn.mask.getD []) r.data →
    ∃ x : State, leaves (.checkByte l (checkOf (0x61 :: r.data))) s x [l] ∧
      x.inc = s.inc.pass
        { kind := .deviation, epoch := s.now, lane := l, target := r.target, duty := some d, attempt := some r.attempt
          status := some 0x61, data := some r.data } ∧
      ((s.duty d).state ≠ .running ∨ (s.duty d).defn.haltOnDeviation = false →
        s.outcomeTaken x l d ((s.duty d).afterCredit r.forcedMark (s.duty d).owedAfterCredit .deviation)
          (s.lane l).gate 0) ∧
      ((s.duty d).state = .running → (s.duty d).defn.haltOnDeviation = true →
        s.sameBeside x d l ∧ s.lineFreed x l d (s.duty d).defn.quietTime ∧ (x.lane l).gate = (s.lane l).gate ∧
          (x.lane l).integrityCount = 0 ∧ (s.lane l).sameConfig (x.lane l) ∧
          x.duty d = { (s.duty d).afterCredit r.forcedMark (s.duty d).owedAfterCredit .deviation with
            state := .faulted, ticket := false, catchUp := false, forced := false, nextBoundary := none } ∧
          x.list l = (s.list l).filter (fun e => e ≠ d) ∧ x.port = s.port)

/-- R13, R77 to R80, R84: BUSY within the Busy limit, and beyond it; ERROR with a good check byte: each failure with retries
left, of a RUNNING duty whose retries are spent, and of a STOPPED duty, which stays STOPPED. A backoff, as every deadline made of
an epoch and a span, is held at 2^48 - 1. -/
def Obligations.BusyAndRejectedOutcomes : Prop :=
  ∀ (s : State) (l : LaneIx) (r : InFlight) (d : DutyIx), s.serves l r d → (s.lane l).clockHeld = false →
    r.phase = .response → r.data = [] →
    (r.status = some 0x62 →
      ((s.duty d).busyCount < (s.duty d).defn.busyLimit →
        ∃ x : State, leaves (.checkByte l 0xDA) s x [l] ∧ x.inc = s.inc ∧
          s.outcomeTaken x l d
            { s.duty d with
              busyCount := (s.duty d).busyCount + 1
              backoffUntil := some (satAdd s.now (s.targetOf d).defn.busyBackoff)
              lastOutcome := .busy, inFlight := false }
            (s.lane l).gate 0) ∧
      ((s.duty d).defn.busyLimit ≤ (s.duty d).busyCount →
        ∃ x : State, leaves (.checkByte l 0xDA) s x [l] ∧ s.dutyFails x l d r .busyLimit .busyLimit 0)) ∧
    (r.status = some 0x63 →
      ∃ x : State, leaves (.checkByte l 0xDD) s x [l] ∧ s.dutyFails x l d r .rejected .rejected 0) ∧
    ∀ (e : Epoch) (span : Nat), (satAdd e span).toNat = min (e.toNat + span) (2 ^ 48 - 1)

/-- R13, R70, R73, R79, R80, R82, R126: a bad check byte, and an undefined status: the incident, the lane SUSPECT, latched at
the third in a row; with the retries of a RUNNING duty spent, it faults and DUTY-FAULTED follows. When a status may be read
again is DEDUCED (log 7). -/
def Obligations.IntegrityOutcome : Prop :=
  ∀ (s : State) (l : LaneIx) (r : InFlight) (d : DutyIx), s.serves l r d → (s.lane l).clockHeld = false →
    (∀ v : Byte, r.phase = .response → s.expectedData r ≤ r.data.length → v ≠ checkOf (r.status.getD 0 :: r.data) →
      ((s.duty d).attempts < (s.duty d).defn.retryLimit ∨ (s.duty d).state = .stopped →
        ∃ x : State, leaves (.checkByte l v) s x [l] ∧ s.suspendedBy x l d r) ∧
      ((s.duty d).defn.retryLimit ≤ (s.duty d).attempts → (s.duty d).state = .running →
        ∃ x : State, leaves (.checkByte l v) s x [l] ∧ s.suspendedAndFaulted x l d r)) ∧
    (∀ v : Byte, r.phase = .request ∨ (r.phase = .wait ∧ r.tickSinceRead = true) →
      v ≠ 0x00 → v ≠ 0x61 → v ≠ 0x62 → v ≠ 0x63 → v ≠ 0xFF ∨ (s.lane l).mode = .addressed ∨ r.phase = .wait →
      ((s.duty d).attempts < (s.duty d).defn.retryLimit ∨ (s.duty d).state = .stopped →
        ∃ x : State, leaves (.statusRead l v) s x [l] ∧ s.suspendedBy x l d { r with status := some v }) ∧
      ((s.duty d).defn.retryLimit ≤ (s.duty d).attempts → (s.duty d).state = .running →
        ∃ x : State, leaves (.statusRead l v) s x [l] ∧ s.suspendedAndFaulted x l d { r with status := some v }))

/-- R13, R71, R73, R75, R79, R80, R84, R135, R136: outcomes without a check byte: an absent target on either mode, a refused
request byte, and a first PENDING after the deadline, each with retries left, spent, and of a STOPPED duty. The lane's gate and
count stay as they were. When a status may be read again is DEDUCED (log 7). -/
def Obligations.FrameEndsWithoutCheckByte : Prop :=
  ∀ (s : State) (l : LaneIx) (r : InFlight) (d : DutyIx), s.serves l r d → (s.lane l).clockHeld = false →
    ((s.lane l).mode = .addressed → r.phase = .request ∨ (r.phase = .wait ∧ r.tickSinceRead = true) →
      ∃ x : State, leaves (.addressNotAcknowledged l) s x [l] ∧
        s.dutyFails x l d r .noAnswer .noAnswer (s.lane l).integrityCount) ∧
    ((s.lane l).mode = .addressed → r.phase = .request →
      ∃ x : State, leaves (.requestByteRefused l) s x [l] ∧
        s.dutyFails x l d r .rejected .rejected (s.lane l).integrityCount) ∧
    ((s.lane l).mode = .select → r.phase = .request →
      ∃ x : State, leaves (.statusRead l 0xFF) s x [l] ∧
        s.dutyFails x l d r .noAnswer .noAnswer (s.lane l).integrityCount) ∧
    (r.phase = .request → r.deadlinePassed = true →
      ∃ x : State, leaves (.statusRead l 0x00) s x [l] ∧
        s.dutyFails x l d { r with status := some 0x00 } .timeout .timeout (s.lane l).integrityCount)

/-- R13, R71, R79, R80, R84, R132, R134, R139, R140: the clock line; a TIMEOUT by it with retries left, spent, and of a STOPPED
duty; the pins at its release, with a stop waiting and a transaction behind it, or none; and the end of a frame with the line
held and free. That a hold by which no transaction ends only records the input is the model's choice (DESIGN CHOICE, log 9), so
are the pins, which are those between bits (DESIGN CHOICE, log 12), and that a stop waits in WAIT too is DEDUCED (log 20). -/
def Obligations.ClockLineHoldAndRelease : Prop :=
  (∀ (s : State) (l : LaneIx), (∀ r, s.record l = some r → r.phase = .wait ∨ s.now.toNat < r.deadline.toNat) →
      exec (.clockLineHold l) s = .next (s.setLane l { s.lane l with lineHeld := true })) ∧
    (∀ (s : State) (l : LaneIx) (r : InFlight) (d : DutyIx), s.serves l r d → (s.lane l).configured = true →
      (s.lane l).mode = .addressed → r.phase ≠ .wait → r.deadline.toNat ≤ s.now.toNat →
      ∃ x : State, leaves (.clockLineHold l) s x [l] ∧ (x.lane l).lineHeld = true ∧ (x.lane l).stopWaiting = true ∧
        (x.lane l).pins.dout = .low ∧ (x.lane l).pins.clk = .released ∧
        s.dutyFails x l d r .timeout .timeout (s.lane l).integrityCount) ∧
    (∀ (s : State) (l : LaneIx), ∃ t : State, exec (.clockLineRelease l) s = .next t ∧ (t.lane l).lineHeld = false ∧
      (t.lane l).stopWaiting = false ∧
      t = s.setLane l { s.lane l with lineHeld := false, stopWaiting := false, pins := (t.lane l).pins } ∧
      ((s.lane l).stopWaiting = false → (t.lane l).pins = (s.lane l).pins) ∧
      ((s.lane l).stopWaiting = true →
        (s.record l = none → (t.lane l).pins = (s.lane l).idlePins ∧ (s.lane l).idleLevels (t.lane l).pins) ∧
        ∀ r, s.record l = some r → (s.lane l).frameBegun (s.target r.target).defn.address (t.lane l).pins)) ∧
    ∀ x : Lane, (x.clockHeld = true ↔ x.configured = true ∧ x.mode = .addressed ∧ x.lineHeld = true) ∧
      (x.clockHeld = false → x.endFrame = { x with pins := x.idlePins, stopWaiting := false }) ∧
      (x.clockHeld = true →
        x.endFrame = { x with pins := { x.idlePins with clk := .released, dout := .low }, stopWaiting := true })

/-- R137, R138, Table 6-3: how the check register takes a byte in, the check bytes that the manual prints, and that the check
byte tells any two lists of bytes apart that differ in one byte. -/
def Obligations.CheckByteTellsBytesApart : Prop :=
  (checkOf [] = 0xFF ∧ ∀ (bytes : List Byte) (b : Byte), checkOf (bytes ++ [b]) =
      (List.range 8).foldl (fun (r : Byte) (_ : Nat) => if r.getLsbD 7 = true then (r <<< 1) ^^^ 0x07 else r <<< 1) (checkOf bytes ^^^ b)) ∧
  checkOf [0x61] = 0xD3 ∧ checkOf [0x62] = 0xDA ∧ checkOf [0x63] = 0xDD ∧ checkOf [0x61, 0x5A] = 0xB6 ∧
    checkOf [0x61, 0x12, 0x34] = 0x74 ∧ checkOf [0x21, 0x05] = 0x77 ∧
    ∀ (bytes : List Byte) (a b : Byte) (tail : List Byte), a ≠ b → checkOf (bytes ++ a :: tail) ≠ checkOf (bytes ++ b :: tail)

-- The duty commands

/-- R6, R7, R180: DEFINE DUTY with every check passed writes the definition that the words and bits of Table 10-5 stage, and
fresh runtime fields. That no look follows is DEDUCED (log 14). -/
def Obligations.DefineDutyWritesTheRecord : Prop :=
  ∀ (s : State) (d : DutyIx) (w : DutyStaging) (y : DutyDef), s.port.state = .ready → w.laidOut s.port.staging →
    y.laidOut w s.port.staging → w.index = d.val →
    (s.duty d).state = .vacant ∨ ((s.duty d).state = .stopped ∧ (s.duty d).inFlight = false ∧ s.holdsLock d = false) →
    w.payloadLength ≤ 8 → w.readbackLength ≤ 8 → 16 ≤ w.interval → w.interval ≤ 16777215 → w.deferLimit ≤ 15 →
    w.advanceLimit ≤ 15 →
    (∀ v, w.initialOwed = some v → -(w.advanceLimit : Int) ≤ v ∧ v ≤ w.deferLimit + 1) →
    w.retryLimit ≤ 3 → 1 ≤ w.busyLimit → w.busyLimit ≤ 15 → w.quietTime ≤ 4095 → w.shareGroup ≤ 8 →
    (w.compare = true → w.readbackLength ≠ 0) →
    (∀ a b, w.startTime = some a → w.stopTime = some b → a.toNat < b.toNat) →
    (∃ g : TargetIx, w.target = g.val ∧ (s.target g).holdState ≠ .undefined) →
    exec .defineDuty s =
      .next (((s.latch 0x01).setDuty d { defn := y, state := .stopped }).recordResult .done)

/-- R8 to R10, R32: START DUTY, and the Start time of a WAITING duty whose target accrues. -/
def Obligations.StartDutyWaitsOrRuns : Prop :=
  (∀ (s : State) (d : DutyIx) (start : Option Epoch) (y : Duty), s.port.state = .ready →
    stagedIndex s.port.staging = d.val → (s.duty d).state = .stopped → (s.duty d).inFlight = false →
    start = (if (stagedStartTime s.port.staging).isSome = true then stagedStartTime s.port.staging
      else (s.duty d).defn.startTime) →
    (∀ a b, start = some a → (s.duty d).defn.stopTime = some b → a.toNat < b.toNat) →
    (∀ b, (s.duty d).defn.stopTime = some b → s.now.toNat < b.toNat) →
    y = { s.duty d with
      defn := { (s.duty d).defn with startTime := start }
      owed := (s.duty d).defn.initialOwed.getD 1, overdue := false, attempts := 0, busyCount := 0, backoffUntil := none } →
    ((∃ a, start = some a ∧ s.now.toNat < a.toNat) ∨ (s.targetOf d).holdState = .held ∨
        (s.targetOf d).holdState = .leaving ∨ (s.targetOf d).holdState = .stranded →
      doneFrom .startDuty s ((s.latch 0x02).setDuty d { y with state := .waiting, nextBoundary := none }) [s.laneOf d]) ∧
    ((∀ a, start = some a → a.toNat ≤ s.now.toNat) →
        (s.targetOf d).holdState = .active ∨ (s.targetOf d).holdState = .entering ∨ (s.targetOf d).holdState = .settling →
      ∃ x : State, doneFrom .startDuty s x [s.laneOf d] ∧
        (s.latch 0x02).dutyChanged x d
          { y with state := .running, nextBoundary := boundaryAfter s.now (s.duty d).defn.interval }
          (y.owed = ((s.duty d).defn.deferLimit : Int) + 1))) ∧
  ∀ (s : State) (d : DutyIx) (e : Epoch), (s.duty d).state = .waiting → (s.duty d).defn.startTime = some e →
    e.toNat ≤ s.now.toNat →
    (s.targetOf d).holdState = .active ∨ (s.targetOf d).holdState = .entering ∨ (s.targetOf d).holdState = .settling →
    ∃ x : State, leaves (.startTime d) s x [s.laneOf d] ∧
      s.dutyChanged x d
        { s.duty d with state := .running, nextBoundary := boundaryAfter s.now (s.duty d).defn.interval }
        ((s.duty d).owed = ((s.duty d).defn.deferLimit : Int) + 1)

/-- R18, R32: REVIVE DUTY. -/
def Obligations.ReviveDutyKeepsTheDebt : Prop :=
  ∀ (s : State) (d : DutyIx), s.port.state = .ready → stagedIndex s.port.staging = d.val → (s.duty d).state = .faulted →
    ∃ x : State, doneFrom .reviveDuty s x [s.laneOf d] ∧
      (s.latch 0x05).dutyChanged x d
        { s.duty d with
          state := .running, attempts := 0, busyCount := 0, backoffUntil := none
          nextBoundary :=
            if (s.targetOf d).holdState.accruing = true then boundaryAfter s.now (s.duty d).defn.interval else none }
        ((s.targetOf d).holdState.accruing = true ∧ (s.duty d).owed = ((s.duty d).defn.deferLimit : Int) + 1)

/-- R38, R40, R42: PROD DUTY of a RUNNING duty; SET OWED, to 1 or more on any duty that is not VACANT, and to 0 or below.
That a SET OWED which changes nothing prompts no look is DEDUCED (log 14). -/
def Obligations.ProdDutyAndSetOwed : Prop :=
  (∀ (s : State) (d : DutyIx), s.port.state = .ready → stagedIndex s.port.staging = d.val → (s.duty d).state = .running →
      ((s.duty d).forced = false →
        ∃ x : State, doneFrom .prodDuty s x [s.laneOf d] ∧
          (s.latch 0x07).dutyChanged x d { s.duty d with forced := true } False) ∧
      ((s.duty d).forced = true → exec .prodDuty s = .next ((s.latch 0x07).recordResult .done))) ∧
    ∀ (s : State) (d : DutyIx) (v : Int), s.port.state = .ready → stagedIndex s.port.staging = d.val →
      stagedOwed s.port.staging = v → (s.duty d).state ≠ .vacant →
      (¬(s.duty d).defn.owedInRange v → refuses .setOwed 0x06 s .field) ∧
      ((s.duty d).defn.owedInRange v → 1 ≤ v ∨ (s.duty d).catchUp = true ∨ (s.duty d).forced = true →
        ∃ x : State, doneFrom .setOwed s x (if x.duty d = s.duty d then [] else [s.laneOf d]) ∧
          (s.latch 0x06).dutyChanged x d
            { s.duty d with
              owed := v, overdue := (s.duty d).overdue && decide ((s.duty d).defn.deferLimit < v) }
            (s.accrues d = true ∧ v = ((s.duty d).defn.deferLimit : Int) + 1 ∧
              (s.duty d).owed < ((s.duty d).defn.deferLimit : Int) + 1)) ∧
      ((s.duty d).defn.owedInRange v → v ≤ 0 → (s.duty d).catchUp = false → (s.duty d).forced = false →
        ∃ x : State, doneFrom .setOwed s x (if x.duty d = s.duty d then [] else [s.laneOf d]) ∧
          s.sameBeside x d (s.laneOf d) ∧ x.duty d = { s.duty d with owed := v, overdue := false, ticket := false } ∧
          x.list (s.laneOf d) = (s.list (s.laneOf d)).filter (fun e => e ≠ d) ∧
          x.lane (s.laneOf d) = s.lane (s.laneOf d) ∧ x.record (s.laneOf d) = s.record (s.laneOf d) ∧
          (∀ k, x.lock k = s.lock k) ∧ x.inc = s.inc ∧ x.port = (s.latch 0x06).port)

/-- R19, R20, R111, R176, R181: the codes of Table 10-6, the snapshots, as the host then reads them word by word, and the Clear
option. -/
def Obligations.SnapshotsShowTheRecord : Prop :=
  ([DutyState.vacant, .stopped, .waiting, .running, .faulted].map DutyState.code = [0, 1, 2, 3, 4] ∧
      [LastOutcome.none, .credited, .deviation, .busy, .noAnswer, .timeout, .rejected, .integrity, .busyLimit,
        .abandoned].map LastOutcome.code = [0, 1, 2, 3, 4, 5, 6, 7, 8, 9] ∧
      [HoldState.undefined, .active, .entering, .held, .leaving, .settling, .stranded].map HoldState.code =
        [0, 1, 2, 3, 4, 5, 6] ∧
      [HoldTransaction.none, .entryPending, .entryInFlight, .exitPending, .exitInFlight].map HoldTransaction.code =
        [0, 1, 2, 3, 4] ∧
      [DeadlineKind.none, .minimum, .maximum, .settle].map DeadlineKind.code = [0, 1, 2, 3] ∧
      ∀ a b c : Word, (epochOfWords a b c).toNat = a.toNat + 65536 * b.toNat + 4294967296 * c.toNat) ∧
  (∀ (s : State) (d : DutyIx), s.port.state = .ready → stagedIndex s.port.staging = d.val →
      ∃ t : State, exec .snapshotDuty s = .next t ∧
        t.busReads 0x28 = BitVec.ofNat 16 (1 + 256 * d.val) ∧
        (t.busReads 0x29).toNat % 8 = (s.duty d).state.code ∧ (t.busReads 0x29).getLsbD 3 = false ∧
        (t.busReads 0x29).getLsbD 4 = (s.duty d).catchUp ∧ (t.busReads 0x29).getLsbD 5 = (s.duty d).forced ∧
        (t.busReads 0x29).getLsbD 6 = (s.duty d).overdue ∧ (t.busReads 0x29).getLsbD 7 = (s.duty d).ticket ∧
        (t.busReads 0x29).getLsbD 8 = (s.duty d).inFlight ∧ (t.busReads 0x29).getLsbD 9 = (s.duty d).retirePending ∧
        (t.busReads 0x29).getLsbD 10 = (s.duty d).nextBoundary.isSome ∧
        (t.busReads 0x29).getLsbD 11 = (s.duty d).backoffUntil.isSome ∧ (t.busReads 0x29).toNat / 4096 = 0 ∧
        t.busReads 0x2A = BitVec.ofInt 16 (s.duty d).owed ∧
        t.busReads 0x2B = BitVec.ofNat 16 (s.duty d).attempts ||| BitVec.ofNat 16 (16 * (s.duty d).busyCount) |||
          BitVec.ofNat 16 (256 * (s.duty d).lastOutcome.code) ∧
        t.busReads 0x2C = BitVec.ofNat 16 (s.duty d).defn.target.val ||| BitVec.ofNat 16 (256 * (s.duty d).defn.shareGroup) ∧
        epochOfWords (t.busReads 0x2D) (t.busReads 0x2E) (t.busReads 0x2F) = (s.duty d).nextBoundary.getD 0 ∧
        epochOfWords (t.busReads 0x30) (t.busReads 0x31) (t.busReads 0x32) = (s.duty d).backoffUntil.getD 0 ∧
        (t.busReads 0x33).toNat + 65536 * (t.busReads 0x34).toNat = (s.duty d).completions.toNat ∧
        t.busReads 0x35 = BitVec.ofNat 16 (s.duty d).misses ∧ t.busReads 0x36 = 0 ∧ t.busReads 0x37 = 0 ∧
        t.port.snapshot.kind = .duty ∧
        t.port = { s.port with
          latched := s.port.staging, code := 0x08, result := .done, snapshot := t.port.snapshot } ∧
        t.inc = s.inc.setCommand ∧
        t.duty d = (if stagedClear s.port.staging = true then { s.duty d with completions := 0, misses := 0 } else s.duty d) ∧
        (∀ e, e ≠ d → t.duty e = s.duty e) ∧ { t with duties := s.duties, port := s.port, inc := s.inc } = s) ∧
    ∀ (s : State) (g : TargetIx), s.port.state = .ready → stagedIndex s.port.staging = g.val →
      ∃ t : State, exec .snapshotTarget s = .next t ∧
        t.busReads 0x28 = BitVec.ofNat 16 (2 + 256 * g.val) ∧
        (t.busReads 0x29).toNat % 8 = (s.target g).holdState.code ∧ (t.busReads 0x29).getLsbD 3 = false ∧
        (t.busReads 0x29).toNat / 16 % 8 = (s.target g).holdTransaction.code ∧ (t.busReads 0x29).getLsbD 7 = false ∧
        (t.busReads 0x29).toNat / 256 % 4 = (s.target g).deadlineKind.code ∧
        (t.busReads 0x29).getLsbD 10 = (s.target g).releasePending ∧
        (t.busReads 0x29).getLsbD 11 = (s.target g).heldSince.isSome ∧
        (t.busReads 0x29).toNat / 4096 = (s.target g).holdAttempts % 16 ∧
        t.busReads 0x2A = BitVec.ofNat 16 ((s.target g).defn.lane.val + 256 * (s.target g).defn.address.toNat) ∧
        epochOfWords (t.busReads 0x2B) (t.busReads 0x2C) (t.busReads 0x2D) = (s.target g).heldSince.getD 0 ∧
        epochOfWords (t.busReads 0x2E) (t.busReads 0x2F) (t.busReads 0x30) = (s.target g).deadline.getD 0 ∧
        t.busReads 0x31 = 0 ∧ t.busReads 0x32 = 0 ∧ t.busReads 0x33 = 0 ∧ t.busReads 0x34 = 0 ∧ t.busReads 0x35 = 0 ∧
        (t.busReads 0x36).toNat =
          (allDuties.countP fun d => decide ((s.duty d).state ≠ .vacant) && decide ((s.duty d).defn.target = g)) +
            256 * allDuties.countP fun d =>
              decide ((s.duty d).state ≠ .vacant) && decide ((s.duty d).defn.target = g) && (s.duty d).catchUp ∧
        t.busReads 0x37 = 0 ∧ t.port.snapshot.kind = .target ∧
        t.port = { s.port with
          latched := s.port.staging, code := 0x14, result := .done, snapshot := t.port.snapshot } ∧
        t.inc = s.inc.setCommand ∧ { t with port := s.port, inc := s.inc } = s

-- The target commands and the hold protocol

/-- R93, R94, R180: DEFINE TARGET with every check passed writes the definition that the words and bits of Table 10-5 stage.
That no look follows is DEDUCED (log 14). -/
def Obligations.DefineTargetWritesTheRecord : Prop :=
  ∀ (s : State) (g : TargetIx) (w : TargetStaging) (y : TargetDef) (l : LaneIx), s.port.state = .ready →
    w.laidOut s.port.staging → y.laidOut w s.port.staging → w.index = g.val → w.lane = l.val →
    (s.target g).holdState = .undefined ∨
      ((s.target g).holdState = .active ∧ ∀ d, (s.duty d).state ≠ .vacant → (s.duty d).defn.target ≠ g) →
    (∀ h, h ≠ g → (s.target h).holdState ≠ .undefined →
      (s.target h).defn.lane ≠ l ∨ (s.target h).defn.address ≠ w.address) →
    (s.lane l).configured = true →
    ((s.lane l).mode = .select → w.address.toNat ≤ 7) →
    ((s.lane l).mode = .addressed → 0x08 ≤ w.address.toNat ∧ w.address.toNat ≤ 0x77) →
    1 ≤ w.responseTimeout → 1 ≤ w.busyBackoff → w.entryLength ≤ 4 → w.exitLength ≤ 4 → w.holdRetryLimit ≤ 3 →
    exec .defineTarget s =
      .next (((s.latch 0x10).setTarget g { defn := y, holdState := .active }).recordResult .done)

/-- R95, R97: DROP TARGET and HOLD TARGET. That no look follows a DROP TARGET is DEDUCED (log 14). -/
def Obligations.DropAndHoldTarget : Prop :=
  (∀ (s : State) (g : TargetIx), s.port.state = .ready → stagedIndex s.port.staging = g.val →
      (s.target g).holdState = .active ∨ (s.target g).holdState = .held ∨ (s.target g).holdState = .settling ∨
        (s.target g).holdState = .stranded →
      ((∀ d, (s.duty d).state ≠ .vacant → (s.duty d).defn.target ≠ g) →
        exec .dropTarget s = .next (((s.latch 0x11).setTarget g {}).recordResult .done)) ∧
      ((∃ d, (s.duty d).state ≠ .vacant ∧ (s.duty d).defn.target = g) → refuses .dropTarget 0x11 s .inUse)) ∧
    ∀ (s : State) (g : TargetIx), s.port.state = .ready → stagedIndex s.port.staging = g.val →
      (s.target g).holdState = .active →
      ((∀ d, (s.duty d).state ≠ .vacant → (s.duty d).defn.target = g → (s.duty d).catchUp = false) →
        doneFrom .holdTarget s
          ((s.latch 0x12).setTarget g
            { s.target g with
              holdState := .entering, holdTransaction := .entryPending, holdAttempts := 0, releasePending := false })
          [(s.target g).defn.lane]) ∧
      ((∃ d, (s.duty d).state ≠ .vacant ∧ (s.duty d).defn.target = g ∧ (s.duty d).catchUp = true) →
        refuses .holdTarget 0x12 s .catchUp)

/-- R101, R102: RELEASE TARGET in the four rows of its table, and its refusal. -/
def Obligations.ReleaseTargetByState : Prop :=
  ∀ (s : State) (g : TargetIx), s.port.state = .ready → stagedIndex s.port.staging = g.val →
    ((s.target g).holdState = .entering → (s.target g).holdTransaction = .entryPending →
      doneFrom .releaseTarget s
        ((s.latch 0x13).setTarget g { s.target g with holdState := .active, holdTransaction := .none })
        [(s.target g).defn.lane]) ∧
    ((s.target g).holdState = .entering → (s.target g).holdTransaction = .entryInFlight →
      exec .releaseTarget s =
        .next (((s.latch 0x13).setTarget g { s.target g with releasePending := true }).recordResult .done)) ∧
    (∀ e, (s.target g).holdState = .held → (s.target g).holdTransaction = .none → (s.target g).heldSince = some e →
      doneFrom .releaseTarget s
        ((s.latch 0x13).setTarget g
          { s.target g with
            holdState := .leaving, holdTransaction := .exitPending, holdAttempts := 0, deadlineKind := .minimum
            deadline := some (satAdd e (s.target g).defn.minimumHold) })
        [(s.target g).defn.lane]) ∧
    ((s.target g).holdState = .stranded → (s.target g).holdTransaction = .none →
      doneFrom .releaseTarget s
        ((s.latch 0x13).setTarget g
          { s.target g with
            holdState := .leaving, holdTransaction := .exitPending, holdAttempts := 0, deadlineKind := .none
            deadline := none })
        [(s.target g).defn.lane]) ∧
    ((s.target g).holdState = .undefined ∨ (s.target g).holdState = .active ∨ (s.target g).holdState = .leaving ∨
        (s.target g).holdState = .settling →
      refuses .releaseTarget 0x13 s .state)

/-- R26, R99, R110: a credited entry makes the target HELD and suspends the boundaries of its RUNNING duties. -/
def Obligations.EntryCreditHoldsTheTarget : Prop :=
  ∀ (s : State) (l : LaneIx) (r : InFlight) (g : TargetIx), s.record l = some r → r.kind = .holdEntry → r.target = g →
    (s.lane l).clockHeld = false → r.phase = .response → r.status = some 0x61 → r.data = [] →
    ∃ x : State, leaves (.checkByte l 0xD3) s x [l] ∧
      ((s.target g).releasePending = false → (s.target g).defn.maximumHold = 0 →
        x.target g = { s.target g with
          holdState := .held, holdTransaction := .none, holdAttempts := 0, heldSince := some s.now, deadlineKind := .none
          deadline := none }) ∧
      ((s.target g).releasePending = false → (s.target g).defn.maximumHold ≠ 0 →
        x.target g = { s.target g with
          holdState := .held, holdTransaction := .none, holdAttempts := 0, heldSince := some s.now, deadlineKind := .maximum
          deadline := some (satAdd s.now (64 * (s.target g).defn.maximumHold)) }) ∧
      ((s.target g).releasePending = true →
        x.target g = { s.target g with
          holdState := .leaving, holdTransaction := .exitPending, holdAttempts := 0, heldSince := some s.now
          releasePending := false, deadlineKind := .minimum
          deadline := some (satAdd s.now (s.target g).defn.minimumHold) }) ∧
      (∀ h, h ≠ g → x.target h = s.target h) ∧
      (∀ d, x.duty d =
        if (s.duty d).state = .running ∧ (s.duty d).defn.target = g then { s.duty d with nextBoundary := none }
        else s.duty d) ∧
      (∀ j, x.list j = s.list j) ∧ (∀ k, x.lock k = s.lock k) ∧ x.record l = none ∧
      (∀ j, j ≠ l → x.record j = s.record j ∧ x.lane j = s.lane j) ∧
      x.lane l = { s.lane l with
        activity := .idle, integrityCount := 0, pins := (s.lane l).idlePins, stopWaiting := false } ∧
      x.inc = s.inc.setHold ∧ x.port = s.port ∧ x.time = s.time ∧ x.busRead = s.busRead ∧ x.pending = s.pending

/-- R10, R32, R36, R45, R105, R124: a credited exit re-bases the target's duties: the RUNNING ones with catch-up, the WAITING
ones that may start without it. Their tickets follow in order of Index, and one that is pressed ends a blackout with Yield. That
a WAITING duty whose Start time equals the epoch of the credit starts here, and not at its START_TIME, is the model's choice
(DESIGN CHOICE, log 22). -/
def Obligations.ExitCreditRebasesTheDuties : Prop :=
  ∀ (s : State) (l : LaneIx) (r : InFlight) (g : TargetIx) (pressed : Prop), s.record l = some r → r.kind = .holdExit →
    r.target = g → (s.lane l).clockHeld = false → r.phase = .response → r.status = some 0x61 → r.data = [] →
    (s.target g).defn.lane = l →
    (pressed ↔ ∃ d, (s.duty d).defn.target = g ∧ (s.rebased d).state = .running ∧
      (s.duty d).owed = ((s.duty d).defn.deferLimit : Int) + 1) →
    ∃ x : State, leaves (.checkByte l 0xD3) s x [l] ∧
      ((s.target g).defn.settleTime = 0 →
        x.target g = { s.target g with
          holdState := .active, holdTransaction := .none, holdAttempts := 0, heldSince := none, deadlineKind := .none
          deadline := none }) ∧
      (0 < (s.target g).defn.settleTime →
        x.target g = { s.target g with
          holdState := .settling, holdTransaction := .none, holdAttempts := 0, heldSince := none, deadlineKind := .settle
          deadline := some (satAdd s.now (s.target g).defn.settleTime) }) ∧
      (∀ h, h ≠ g → x.target h = s.target h) ∧
      (∀ d, x.duty d = if (s.duty d).defn.target = g then (s.rebased d).offered else s.duty d) ∧
      x.list l = s.list l ++
        allDuties.filter (fun d => decide ((s.duty d).defn.target = g) && (s.rebased d).getsTicket) ∧
      (∀ j, j ≠ l → x.list j = s.list j ∧ x.record j = s.record j ∧ x.lane j = s.lane j) ∧ (∀ k, x.lock k = s.lock k) ∧
      x.record l = none ∧
      (pressed ∧ (s.lane l).gate = .blackout ∧ (s.lane l).yielding = true →
        x.lane l = { s.lane l with
          gate := .opened, blackoutEnd := none, yielding := false, activity := .idle, integrityCount := 0
          pins := (s.lane l).idlePins, stopWaiting := false } ∧
        x.inc = s.inc.setLane.setHold) ∧
      (¬(pressed ∧ (s.lane l).gate = .blackout ∧ (s.lane l).yielding = true) →
        x.lane l = { s.lane l with
          activity := .idle, integrityCount := 0, pins := (s.lane l).idlePins, stopWaiting := false } ∧
        x.inc = s.inc.setHold) ∧
      x.port = s.port ∧ x.time = s.time ∧ x.busRead = s.busRead ∧ x.pending = s.pending

/-- R71, R82, R85, R100, R107, R110, R126, R139, Table 5-4: every failure of an entry or an exit, with retries left, with a
release waiting, and with the retries spent. When a status may be read again is DEDUCED (log 7), and so are the pins and the
stop that waits after a TIMEOUT in WAIT, whether the clock line is held or not (log 20). -/
def Obligations.HoldTransactionFails : Prop :=
  ∀ (s : State) (l : LaneIx) (r : InFlight), s.record l = some r → r.kind = .holdEntry ∨ r.kind = .holdExit →
    (r.phase = .wait ∨ (s.lane l).clockHeld = true → r.deadline.toNat ≤ s.now.toNat →
      ∃ x : State, leaves (.responseDeadline l) s x [l] ∧ s.holdFailsQuietly x l r .timeout (s.lane l).integrityCount) ∧
    ((s.lane l).configured = true → (s.lane l).mode = .addressed → r.phase ≠ .wait → r.deadline.toNat ≤ s.now.toNat →
      ∃ x : State, leaves (.clockLineHold l) s x [l] ∧ s.holdFails x l r .timeout s.inc x.inc ∧
        x.lane l = Lane.freed { s.lane l with lineHeld := true } (s.lane l).integrityCount) ∧
    ((s.lane l).clockHeld = false → r.phase = .request → r.deadlinePassed = true →
      ∃ x : State, leaves (.statusRead l 0x00) s x [l] ∧
        s.holdFailsQuietly x l { r with status := some 0x00 } .timeout (s.lane l).integrityCount) ∧
    ((s.lane l).clockHeld = false → (s.lane l).mode = .addressed →
      r.phase = .request ∨ (r.phase = .wait ∧ r.tickSinceRead = true) →
      ∃ x : State, leaves (.addressNotAcknowledged l) s x [l] ∧
        s.holdFailsQuietly x l r .noAnswer (s.lane l).integrityCount) ∧
    ((s.lane l).mode = .select → r.phase = .request →
      ∃ x : State, leaves (.statusRead l 0xFF) s x [l] ∧ s.holdFailsQuietly x l r .noAnswer (s.lane l).integrityCount) ∧
    ((s.lane l).clockHeld = false → (s.lane l).mode = .addressed → r.phase = .request →
      ∃ x : State, leaves (.requestByteRefused l) s x [l] ∧
        s.holdFailsQuietly x l r .rejected (s.lane l).integrityCount) ∧
    ((s.lane l).clockHeld = false → r.phase = .response → r.status = some 0x62 → r.data = [] →
      ∃ x : State, leaves (.checkByte l 0xDA) s x [l] ∧ s.holdFailsQuietly x l r .busyLimit 0) ∧
    ((s.lane l).clockHeld = false → r.phase = .response → r.status = some 0x63 → r.data = [] →
      ∃ x : State, leaves (.checkByte l 0xDD) s x [l] ∧ s.holdFailsQuietly x l r .rejected 0) ∧
    (∀ v : Byte, (s.lane l).clockHeld = false → r.phase = .response → v ≠ checkOf (r.status.getD 0 :: r.data) →
      ∃ x : State, leaves (.checkByte l v) s x [l] ∧ s.holdSuspends x l r) ∧
    ∀ v : Byte, (s.lane l).clockHeld = false → r.phase = .request ∨ (r.phase = .wait ∧ r.tickSinceRead = true) →
      v ≠ 0x00 → v ≠ 0x61 → v ≠ 0x62 → v ≠ 0x63 → v ≠ 0xFF ∨ (s.lane l).mode = .addressed ∨ r.phase = .wait →
      ∃ x : State, leaves (.statusRead l v) s x [l] ∧ s.holdSuspends x l { r with status := some v }

-- The lane commands

/-- R117, R140, R179, R180: CONFIGURE LANE, which reads the words and bits of Table 10-5, and whose pins take the idle levels of
the new Mode; the idle levels of every lane; and LANE_STATUS, bit by bit as Table 10-4 has it. -/
def Obligations.ConfigureLaneWritesTheConfiguration : Prop :=
  (∀ (s : State) (l : LaneIx) (w : LaneStaging), s.port.state = .ready → w.laidOut s.port.staging →
    w.lane = l.val → (s.lane l).gate = .closed →
    (s.lane l).configured = false ∨ (s.lane l).mode = w.mode ∨
      (∀ g, (s.target g).holdState ≠ .undefined → (s.target g).defn.lane ≠ l) →
    w.divider ≠ 0 → w.recoveryTime ≠ 0 →
    ∃ t : State, exec .configureLane s = .next t ∧
      (w.mode = .select → t.lane l = { s.lane l with
        configured := true, mode := .select, divider := w.divider, bitOrder := w.bitOrder, polarityHigh := w.polarityHigh
        autoResume := w.autoResume, recoveryTime := w.recoveryTime
        pins := { clk := if w.polarityHigh = true then .high else .low, dout := .high, sel := 0xFF, pullUp := true } }) ∧
      (w.mode = .addressed → t.lane l = { s.lane l with
        configured := true, mode := .addressed, divider := w.divider, bitOrder := .msbFirst, polarityHigh := false
        autoResume := w.autoResume, recoveryTime := w.recoveryTime
        pins := { clk := .released, dout := .released, sel := 0xFF, pullUp := false } }) ∧
      (∀ j, j ≠ l → t.lane j = s.lane j) ∧
      t.port = { s.port with latched := s.port.staging, code := 0x20, result := .done } ∧ t.inc = s.inc.setCommand ∧
      { t with lanes := s.lanes, port := s.port, inc := s.inc } = s) ∧
    (∀ (s : State) (l : LaneIx), (s.lane l).integrityCount ≤ 3 →
      (s.busReads (BitVec.ofNat 7 (0x58 + l.val))).toNat =
        (s.lane l).gate.code + 4 * (s.lane l).activity.code + 16 * (s.lane l).integrityCount +
          (if (s.lane l).latched = true then 64 else 0) + (if (s.lane l).configured = true then 128 else 0)) ∧
    [Gate.closed, .opened, .blackout, .suspect].map Gate.code = [0, 1, 2, 3] ∧
    [Activity.idle, .busy, .quiet].map Activity.code = [0, 1, 2] ∧ ∀ x : Lane, x.idleLevels x.idlePins

/-- R119: OPEN LANE. -/
def Obligations.OpenLaneOpensTheGate : Prop :=
  ∀ (s : State) (l : LaneIx), s.port.state = .ready → stagedIndex s.port.staging = l.val →
    ((s.lane l).configured = true → (s.lane l).gate = .closed →
      doneFrom .openLane s
        ((s.latch 0x21).setLane l { s.lane l with gate := .opened, integrityCount := 0, activity := .idle }) [l]) ∧
    ((s.lane l).configured = false ∨ (s.lane l).gate ≠ .closed → refuses .openLane 0x21 s .state)

/-- R62, R67, R81, R86, R109, R121, R140: CLOSE LANE, with what it does to a transaction in flight and to a quiet time. -/
def Obligations.CloseLaneEndsTheLane : Prop :=
  ∀ (s : State) (l : LaneIx), s.port.state = .ready → stagedIndex s.port.staging = l.val →
    ∃ x : State, doneFrom .closeLane s x [] ∧
      x.lane l = { s.lane l with
        gate := .closed, activity := .idle, blackoutEnd := none, recoveryEnd := none, yielding := false, latched := false
        quietEnd := none, quietLock := none, pins := (s.lane l).idlePins, stopWaiting := false } ∧
      x.record l = none ∧ (∀ j, j ≠ l → x.record j = s.record j) ∧ x.time = s.time ∧ x.busRead = s.busRead ∧
      x.pending = s.pending ∧
      (s.record l = none →
        (∀ d, x.duty d = s.duty d) ∧ (∀ g, x.target g = s.target g) ∧ (∀ j, x.list j = s.list j) ∧
          (∀ j, j ≠ l → x.lane j = s.lane j) ∧ x.inc = s.inc ∧ x.port = (s.latch 0x22).port ∧
          ∀ k, x.lock k = if ∃ d, (s.lane l).quietLock = some (k, d) ∧ s.lock k = some d then none else s.lock k) ∧
      (∀ r d, s.serves l r d →
        s.ticketOffered x d l { s.duty d with lastOutcome := .abandoned, inFlight := false } ∧
          (∀ e, e ≠ d → x.duty e = s.duty e) ∧ (∀ g, x.target g = s.target g) ∧
          (∀ j, j ≠ l → x.list j = s.list j ∧ x.lane j = s.lane j) ∧ x.inc = s.inc ∧ x.port = (s.latch 0x22).port ∧
          ∀ k, x.lock k =
            if (s.lockOf d = some k ∧ s.lock k = some d) ∨
              ∃ e, (s.lane l).quietLock = some (k, e) ∧ s.lock k = some e then none
            else s.lock k) ∧
      ∀ r g, s.record l = some r → r.kind = .holdEntry ∨ r.kind = .holdExit → r.target = g → (s.target g).defn.lane = l →
        x.target g = { s.target g with
          holdState := .stranded, holdTransaction := .none, releasePending := false, deadlineKind := .none
          deadline := none } ∧
        (∀ h, h ≠ g → x.target h = s.target h) ∧
        (∀ d, x.duty d =
          if (s.duty d).state = .running ∧ (s.duty d).defn.target = g then { s.duty d with nextBoundary := none }
          else s.duty d) ∧
        (∀ j, x.list j = s.list j) ∧ (∀ j, j ≠ l → x.lane j = s.lane j) ∧ x.port = (s.latch 0x22).port ∧
        (∀ k, x.lock k = if ∃ d, (s.lane l).quietLock = some (k, d) ∧ s.lock k = some d then none else s.lock k) ∧
        x.inc = (s.inc.pass
          { kind := .stranded, reason := some .abandoned, epoch := s.now, lane := l, target := g
            attempt := some ((s.target g).holdAttempts + 1) }).setHold

-- What every step keeps

/-- The reset state is consistent. -/
def Obligations.ResetIsConsistent : Prop := State.reset.consistent

/-- R153, R157, R160: the INCIDENT cause follows the queue, IRQ the summary and the enables, and the queue holds at most 16
records. -/
def Obligations.IncidentUnitStaysSound : Prop :=
  ∀ s t : State, s.inc.sound → step s = .next t → t.inc.sound

/-- R142 to R145, Table 7-1: the time base stays in its ranges. -/
def Obligations.TimeBaseStaysSound : Prop :=
  ∀ s t : State, s.time.sound → step s = .next t → t.time.sound

/-- R23, R30: Owed stays in -A..D+1, and a set Overdue marker has Owed at D+1. -/
def Obligations.OwedStaysInRange : Prop :=
  ∀ s t : State, s.owedSound → step s = .next t → t.owedSound

/-- R4, R44: the due lists and the tickets agree. -/
def Obligations.TicketsStayOnTheirLists : Prop :=
  ∀ s t : State, s.ticketsSound → step s = .next t → t.ticketsSound

/-- R68, R118, R125, R126: a lane is BUSY exactly while it has a transaction, and its gate's fields agree. -/
def Obligations.LanesStaySound : Prop :=
  ∀ s t : State, s.lanesSound → step s = .next t → t.lanesSound

/-- Everything the blocks owe one another between commands holds after every step: R4, R23, R30, R44, R60, R68, R91, R96, R118,
R153, R157, R160, R163. That a lock which a quiet time carries is still held by its duty rests on log 13, and which duty the
port waits for on log 15 (both DEDUCED). -/
def Obligations.EveryStepKeepsTheBlocksConsistent : Prop :=
  ∀ s t : State, s.consistent → step s = .next t → t.consistent

-- The link

/-- R132 to R136, R139, R140: what the part puts on the link with each byte that the target answers, on both modes: its start or
repeated start and its address byte, its acknowledge of each byte but the last, and the end of the frame; how far it has come at
a byte that the target does not acknowledge; the stop of a PENDING, given once, at the TIMEOUT or CLOSE LANE of a lane that waits
for the next read or before that read; the stop that waits on a held clock line; the levels of the steps of each symbol; and the
byte that the lane makes of the bits it samples, by its Bit order, with the row that reports it.
That this is read off the state before an event, and that the stop of a PENDING comes with what follows it, is the model's
choice (DESIGN CHOICE, log 21). -/
def Obligations.PartActsOnTheLink : Prop :=
  (∀ (s : State) (l : LaneIx) (r : InFlight) (a : Byte) (bytes : List Byte), s.record l = some r →
      (s.lane l).clockHeld = false → (s.lane l).mode = .addressed → a = (s.target r.target).defn.address →
      bytes = s.requestOf r →
      (∀ v : Byte, v = 0x61 ∨ v = 0x62 ∨ v = 0x63 →
        (r.phase = .request →
          s.sends (.statusRead l v) =
            [[Symbol.start] ++ addressedByte (a <<< 1) ++ bytes.flatMap addressedByte ++ [Symbol.repeatedStart] ++
              addressedByte (a <<< 1 ||| 1) ++ List.replicate 8 Symbol.sample ++ [Symbol.ack]]) ∧
        (r.phase = .wait → r.tickSinceRead = true →
          s.sends (.statusRead l v) =
            [[Symbol.stop, .idleBit, .start] ++ addressedByte (a <<< 1 ||| 1) ++ List.replicate 8 Symbol.sample ++
              [Symbol.ack]])) ∧
      ((r.phase = .request → r.deadlinePassed = false →
          s.sends (.statusRead l 0x00) =
            [[Symbol.start] ++ addressedByte (a <<< 1) ++ bytes.flatMap addressedByte ++ [Symbol.repeatedStart] ++
              addressedByte (a <<< 1 ||| 1) ++ List.replicate 8 Symbol.sample ++ [Symbol.nack]]) ∧
        (r.phase = .wait → r.tickSinceRead = true →
          s.sends (.statusRead l 0x00) =
            [[Symbol.stop, .idleBit, .start] ++ addressedByte (a <<< 1 ||| 1) ++ List.replicate 8 Symbol.sample ++
              [Symbol.nack]])) ∧
      (∀ v : Byte, v ≠ 0x61 → v ≠ 0x62 → v ≠ 0x63 →
        (r.phase = .request → v ≠ 0x00 ∨ r.deadlinePassed = true →
          s.sends (.statusRead l v) =
            [[Symbol.start] ++ addressedByte (a <<< 1) ++ bytes.flatMap addressedByte ++ [Symbol.repeatedStart] ++
              addressedByte (a <<< 1 ||| 1) ++ List.replicate 8 Symbol.sample ++ [Symbol.nack, .stop, .idleBit]]) ∧
        (r.phase = .wait → r.tickSinceRead = true → v ≠ 0x00 →
          s.sends (.statusRead l v) =
            [[Symbol.stop, .idleBit, .start] ++ addressedByte (a <<< 1 ||| 1) ++ List.replicate 8 Symbol.sample ++
              [Symbol.nack, .stop, .idleBit]])) ∧
      (∀ v : Byte, r.phase = .response →
        (r.data.length < s.expectedData r → s.sends (.dataByte l v) = [List.replicate 8 Symbol.sample ++ [Symbol.ack]]) ∧
        (s.expectedData r ≤ r.data.length →
          s.sends (.checkByte l v) = [List.replicate 8 Symbol.sample ++ [Symbol.nack, .stop, .idleBit]])) ∧
      (r.phase = .request →
        s.sends (.addressNotAcknowledged l) =
          [[Symbol.start] ++ addressedByte (a <<< 1) ++ [Symbol.stop, .idleBit],
            [Symbol.start] ++ addressedByte (a <<< 1) ++ bytes.flatMap addressedByte ++ [Symbol.repeatedStart] ++
              addressedByte (a <<< 1 ||| 1) ++ [Symbol.stop, .idleBit]] ∧
        s.sends (.requestByteRefused l) =
          (List.range bytes.length).map fun k =>
            [Symbol.start] ++ addressedByte (a <<< 1) ++ (bytes.take (k + 1)).flatMap addressedByte ++
              [Symbol.stop, .idleBit]) ∧
      (r.phase = .wait → r.tickSinceRead = true →
        s.sends (.addressNotAcknowledged l) =
          [[Symbol.stop, .idleBit, .start] ++ addressedByte (a <<< 1 ||| 1) ++ [Symbol.stop, .idleBit]])) ∧
    (∀ (s : State) (l : LaneIx) (r : InFlight) (a : Byte) (request : List Symbol), s.record l = some r →
      (s.lane l).mode = .select → a = (s.target r.target).defn.address →
      (r.phase = .request → request = [Symbol.selectLow a.toNat, .idleBit] ++
        (s.requestOf r).flatMap fun b => (wireBits (s.lane l).bitOrder b).map Symbol.bit) →
      (r.phase = .wait → request = []) →
      (∀ v : Byte, r.phase = .request ∨ (r.phase = .wait ∧ r.tickSinceRead = true) →
        (v = 0x61 ∨ v = 0x62 ∨ v = 0x63 ∨ (v = 0x00 ∧ (r.phase = .wait ∨ r.deadlinePassed = false)) →
          s.sends (.statusRead l v) = [request ++ List.replicate 8 Symbol.sample]) ∧
        (v ≠ 0x61 → v ≠ 0x62 → v ≠ 0x63 → v ≠ 0x00 ∨ (r.phase = .request ∧ r.deadlinePassed = true) →
          s.sends (.statusRead l v) = [request ++ List.replicate 8 Symbol.sample ++ [Symbol.selectHigh a.toNat, .idleBit]])) ∧
      ∀ v : Byte, r.phase = .response →
        (r.data.length < s.expectedData r → s.sends (.dataByte l v) = [List.replicate 8 Symbol.sample]) ∧
        (s.expectedData r ≤ r.data.length →
          s.sends (.checkByte l v) = [List.replicate 8 Symbol.sample ++ [Symbol.selectHigh a.toNat, .idleBit]])) ∧
    (∀ (s : State) (l : LaneIx) (r : InFlight), s.record l = some r → r.deadline.toNat ≤ s.now.toNat →
      (r.phase = .wait → r.tickSinceRead = false → (s.lane l).stopWaiting = false →
        s.sends (.responseDeadline l) = s.sentAbandoned l ∧
        ((s.lane l).clockHeld = true → s.sends (.responseDeadline l) = [[]]) ∧
        ((s.lane l).clockHeld = false → (s.lane l).mode = .addressed →
          s.sends (.responseDeadline l) = [[Symbol.stop, .idleBit]]) ∧
        ((s.lane l).mode = .select →
          s.sends (.responseDeadline l) = [[Symbol.selectHigh (s.target r.target).defn.address.toNat, .idleBit]])) ∧
      ((s.lane l).clockHeld = true → ∀ f ∈ s.sends (.responseDeadline l),
        Symbol.stop ∉ f ∨
          (r.phase = .wait ∧ r.tickSinceRead = true ∧ ∃ g, f = [Symbol.stop, .idleBit] ++ g ∧ Symbol.stop ∉ g)) ∧
      ((s.lane l).stopWaiting = true → ∀ f ∈ s.sends (.responseDeadline l), f = [])) ∧
    ((∀ b : Byte, addressedByte b =
        [Symbol.bit (b.getLsbD 7), .bit (b.getLsbD 6), .bit (b.getLsbD 5), .bit (b.getLsbD 4), .bit (b.getLsbD 3),
          .bit (b.getLsbD 2), .bit (b.getLsbD 1), .bit (b.getLsbD 0), .ackSlot]) ∧
      (∀ b : Byte, wireBits .msbFirst b =
          [b.getLsbD 7, b.getLsbD 6, b.getLsbD 5, b.getLsbD 4, b.getLsbD 3, b.getLsbD 2, b.getLsbD 1, b.getLsbD 0] ∧
        wireBits .lsbFirst b =
          [b.getLsbD 0, b.getLsbD 1, b.getLsbD 2, b.getLsbD 3, b.getLsbD 4, b.getLsbD 5, b.getLsbD 6, b.getLsbD 7]) ∧
      ∀ (s : State) (r : InFlight) (x : TargetDef), x = (s.target r.target).defn →
        (∀ (d : DutyIx) (y : DutyDef), r.kind = .duty d → y = (s.duty d).defn →
          s.requestOf r = [y.actionCode] ++ y.payload ++ [checkOf ([y.actionCode] ++ y.payload)]) ∧
        (r.kind = .holdEntry →
          s.requestOf r = [x.entryCode] ++ x.entryPayload ++ [checkOf ([x.entryCode] ++ x.entryPayload)]) ∧
        (r.kind = .holdExit →
          s.requestOf r = [x.exitCode] ++ x.exitPayload ++ [checkOf ([x.exitCode] ++ x.exitPayload)])) ∧
    ((∀ (bits : List Bool) (k : Nat), bits.length = 8 → k < 8 →
        (byteOfWire .msbFirst bits).getLsbD k = bits.getD (7 - k) false ∧
          (byteOfWire .lsbFirst bits).getLsbD k = bits.getD k false) ∧
      ∀ (x : Lane) (bits : List Bool),
        (x.mode = .select → x.byteRead bits = byteOfWire x.bitOrder bits) ∧
        (x.mode = .addressed → x.byteRead bits = byteOfWire .msbFirst bits)) ∧
    (∀ (s : State) (l : LaneIx) (r : InFlight) (bits : List Bool), s.record l = some r →
      (s.lane l).clockHeld = false →
      (r.phase = .request ∨ (r.phase = .wait ∧ r.tickSinceRead = true) →
        s.reportOf l bits = some (.statusRead l ((s.lane l).byteRead bits))) ∧
      (r.phase = .response →
        (r.data.length < s.expectedData r → s.reportOf l bits = some (.dataByte l ((s.lane l).byteRead bits))) ∧
        (s.expectedData r ≤ r.data.length → s.reportOf l bits = some (.checkByte l ((s.lane l).byteRead bits))))) ∧
    (∀ (s : State) (l : LaneIx),
      ((s.lane l).stopWaiting = true → s.sends (.clockLineRelease l) = [[Symbol.stop, .idleBit]]) ∧
      ((s.lane l).stopWaiting = false → s.sends (.clockLineRelease l) = [[]])) ∧
    (Symbol.stop.addressedLevels = [(.low, .released), (.low, .low), (.released, .low), (.released, .released)] ∧
      Symbol.start.addressedLevels = [(.released, .released), (.released, .low), (.low, .low)] ∧
      Symbol.repeatedStart.addressedLevels =
        [(.low, .released), (.released, .released), (.released, .low), (.low, .low)] ∧
      (∀ b, (Symbol.bit b).addressedLevels =
        [(.low, if b = true then .released else .low), (.released, if b = true then .released else .low)]) ∧
      ∀ b idle active, (Symbol.bit b).selectLevels idle active =
        [(idle, if b = true then .high else .low), (active, if b = true then .high else .low)])

end
end

