-- ==== Sys2Proof/Laws/State.lean ====
section
/-! SUPPORT. One lemma for each field under each update of the state, so that no proof unfolds a record update. -/

set_option Elab.async false

namespace Sys2Proof.Machine

/-- Two states with the same records and fields are the same state. -/
theorem State.ext_views {s t : State} (hd : ∀ d, s.duty d = t.duty d) (hg : ∀ g, s.target g = t.target g)
    (hl : ∀ l, s.lane l = t.lane l) (hq : ∀ l, s.list l = t.list l) (hk : ∀ k, s.lock k = t.lock k)
    (hr : ∀ l, s.record l = t.record l) (h1 : s.time = t.time) (h2 : s.inc = t.inc) (h3 : s.port = t.port)
    (h4 : s.busRead = t.busRead) (h5 : s.pending = t.pending) : s = t := by
  obtain ⟨d1, g1, l1, q1, k1, r1, _, _, _, _, _⟩ := s
  obtain ⟨d2, g2, l2, q2, k2, r2, _, _, _, _, _⟩ := t
  have e1 : d1 = d2 := Vector.ext fun i hi => hd ⟨i, hi⟩
  have e2 : g1 = g2 := Vector.ext fun i hi => hg ⟨i, hi⟩
  have e3 : l1 = l2 := Vector.ext fun i hi => hl ⟨i, hi⟩
  have e4 : q1 = q2 := Vector.ext fun i hi => hq ⟨i, hi⟩
  have e5 : k1 = k2 := Vector.ext fun i hi => hk ⟨i, hi⟩
  have e6 : r1 = r2 := Vector.ext fun i hi => hr ⟨i, hi⟩
  subst e1 e2 e3 e4 e5 e6
  simp only at h1 h2 h3 h4 h5
  subst h1 h2 h3 h4 h5
  rfl

-- setDuty

@[simp] theorem duty_setDuty (s : State) (i j : DutyIx) (x : Duty) : (s.setDuty i x).duty j = if j = i then x else s.duty j := by
  simp [State.duty, State.setDuty, Vector.getElem_set, Fin.ext_iff, eq_comm]

@[simp] theorem target_setDuty (s : State) (i : DutyIx) (x : Duty) (j : TargetIx) : (s.setDuty i x).target j = s.target j := rfl
@[simp] theorem lane_setDuty (s : State) (i : DutyIx) (x : Duty) (j : LaneIx) : (s.setDuty i x).lane j = s.lane j := rfl
@[simp] theorem list_setDuty (s : State) (i : DutyIx) (x : Duty) (j : LaneIx) : (s.setDuty i x).list j = s.list j := rfl
@[simp] theorem lock_setDuty (s : State) (i : DutyIx) (x : Duty) (j : LockIx) : (s.setDuty i x).lock j = s.lock j := rfl
@[simp] theorem record_setDuty (s : State) (i : DutyIx) (x : Duty) (j : LaneIx) : (s.setDuty i x).record j = s.record j := rfl
@[simp] theorem time_setDuty (s : State) (i : DutyIx) (x : Duty) : (s.setDuty i x).time = s.time := rfl
@[simp] theorem inc_setDuty (s : State) (i : DutyIx) (x : Duty) : (s.setDuty i x).inc = s.inc := rfl
@[simp] theorem port_setDuty (s : State) (i : DutyIx) (x : Duty) : (s.setDuty i x).port = s.port := rfl
@[simp] theorem busRead_setDuty (s : State) (i : DutyIx) (x : Duty) : (s.setDuty i x).busRead = s.busRead := rfl
@[simp] theorem pending_setDuty (s : State) (i : DutyIx) (x : Duty) : (s.setDuty i x).pending = s.pending := rfl
@[simp] theorem now_setDuty (s : State) (i : DutyIx) (x : Duty) : (s.setDuty i x).now = s.now := rfl

-- setTarget

@[simp] theorem target_setTarget (s : State) (i j : TargetIx) (x : Target) : (s.setTarget i x).target j = if j = i then x else s.target j := by
  simp [State.target, State.setTarget, Vector.getElem_set, Fin.ext_iff, eq_comm]

@[simp] theorem duty_setTarget (s : State) (i : TargetIx) (x : Target) (j : DutyIx) : (s.setTarget i x).duty j = s.duty j := rfl
@[simp] theorem lane_setTarget (s : State) (i : TargetIx) (x : Target) (j : LaneIx) : (s.setTarget i x).lane j = s.lane j := rfl
@[simp] theorem list_setTarget (s : State) (i : TargetIx) (x : Target) (j : LaneIx) : (s.setTarget i x).list j = s.list j := rfl
@[simp] theorem lock_setTarget (s : State) (i : TargetIx) (x : Target) (j : LockIx) : (s.setTarget i x).lock j = s.lock j := rfl
@[simp] theorem record_setTarget (s : State) (i : TargetIx) (x : Target) (j : LaneIx) : (s.setTarget i x).record j = s.record j := rfl
@[simp] theorem time_setTarget (s : State) (i : TargetIx) (x : Target) : (s.setTarget i x).time = s.time := rfl
@[simp] theorem inc_setTarget (s : State) (i : TargetIx) (x : Target) : (s.setTarget i x).inc = s.inc := rfl
@[simp] theorem port_setTarget (s : State) (i : TargetIx) (x : Target) : (s.setTarget i x).port = s.port := rfl
@[simp] theorem busRead_setTarget (s : State) (i : TargetIx) (x : Target) : (s.setTarget i x).busRead = s.busRead := rfl
@[simp] theorem pending_setTarget (s : State) (i : TargetIx) (x : Target) : (s.setTarget i x).pending = s.pending := rfl
@[simp] theorem now_setTarget (s : State) (i : TargetIx) (x : Target) : (s.setTarget i x).now = s.now := rfl

-- setLane

@[simp] theorem lane_setLane (s : State) (i j : LaneIx) (x : Lane) : (s.setLane i x).lane j = if j = i then x else s.lane j := by
  simp [State.lane, State.setLane, Vector.getElem_set, Fin.ext_iff, eq_comm]

@[simp] theorem duty_setLane (s : State) (i : LaneIx) (x : Lane) (j : DutyIx) : (s.setLane i x).duty j = s.duty j := rfl
@[simp] theorem target_setLane (s : State) (i : LaneIx) (x : Lane) (j : TargetIx) : (s.setLane i x).target j = s.target j := rfl
@[simp] theorem list_setLane (s : State) (i : LaneIx) (x : Lane) (j : LaneIx) : (s.setLane i x).list j = s.list j := rfl
@[simp] theorem lock_setLane (s : State) (i : LaneIx) (x : Lane) (j : LockIx) : (s.setLane i x).lock j = s.lock j := rfl
@[simp] theorem record_setLane (s : State) (i : LaneIx) (x : Lane) (j : LaneIx) : (s.setLane i x).record j = s.record j := rfl
@[simp] theorem time_setLane (s : State) (i : LaneIx) (x : Lane) : (s.setLane i x).time = s.time := rfl
@[simp] theorem inc_setLane (s : State) (i : LaneIx) (x : Lane) : (s.setLane i x).inc = s.inc := rfl
@[simp] theorem port_setLane (s : State) (i : LaneIx) (x : Lane) : (s.setLane i x).port = s.port := rfl
@[simp] theorem busRead_setLane (s : State) (i : LaneIx) (x : Lane) : (s.setLane i x).busRead = s.busRead := rfl
@[simp] theorem pending_setLane (s : State) (i : LaneIx) (x : Lane) : (s.setLane i x).pending = s.pending := rfl
@[simp] theorem now_setLane (s : State) (i : LaneIx) (x : Lane) : (s.setLane i x).now = s.now := rfl

-- setList

@[simp] theorem list_setList (s : State) (i j : LaneIx) (x : List DutyIx) : (s.setList i x).list j = if j = i then x else s.list j := by
  simp [State.list, State.setList, Vector.getElem_set, Fin.ext_iff, eq_comm]

@[simp] theorem duty_setList (s : State) (i : LaneIx) (x : List DutyIx) (j : DutyIx) : (s.setList i x).duty j = s.duty j := rfl
@[simp] theorem target_setList (s : State) (i : LaneIx) (x : List DutyIx) (j : TargetIx) : (s.setList i x).target j = s.target j := rfl
@[simp] theorem lane_setList (s : State) (i : LaneIx) (x : List DutyIx) (j : LaneIx) : (s.setList i x).lane j = s.lane j := rfl
@[simp] theorem lock_setList (s : State) (i : LaneIx) (x : List DutyIx) (j : LockIx) : (s.setList i x).lock j = s.lock j := rfl
@[simp] theorem record_setList (s : State) (i : LaneIx) (x : List DutyIx) (j : LaneIx) : (s.setList i x).record j = s.record j := rfl
@[simp] theorem time_setList (s : State) (i : LaneIx) (x : List DutyIx) : (s.setList i x).time = s.time := rfl
@[simp] theorem inc_setList (s : State) (i : LaneIx) (x : List DutyIx) : (s.setList i x).inc = s.inc := rfl
@[simp] theorem port_setList (s : State) (i : LaneIx) (x : List DutyIx) : (s.setList i x).port = s.port := rfl
@[simp] theorem busRead_setList (s : State) (i : LaneIx) (x : List DutyIx) : (s.setList i x).busRead = s.busRead := rfl
@[simp] theorem pending_setList (s : State) (i : LaneIx) (x : List DutyIx) : (s.setList i x).pending = s.pending := rfl
@[simp] theorem now_setList (s : State) (i : LaneIx) (x : List DutyIx) : (s.setList i x).now = s.now := rfl

-- setLock

@[simp] theorem lock_setLock (s : State) (i j : LockIx) (x : Option DutyIx) : (s.setLock i x).lock j = if j = i then x else s.lock j := by
  simp [State.lock, State.setLock, Vector.getElem_set, Fin.ext_iff, eq_comm]

@[simp] theorem duty_setLock (s : State) (i : LockIx) (x : Option DutyIx) (j : DutyIx) : (s.setLock i x).duty j = s.duty j := rfl
@[simp] theorem target_setLock (s : State) (i : LockIx) (x : Option DutyIx) (j : TargetIx) : (s.setLock i x).target j = s.target j := rfl
@[simp] theorem lane_setLock (s : State) (i : LockIx) (x : Option DutyIx) (j : LaneIx) : (s.setLock i x).lane j = s.lane j := rfl
@[simp] theorem list_setLock (s : State) (i : LockIx) (x : Option DutyIx) (j : LaneIx) : (s.setLock i x).list j = s.list j := rfl
@[simp] theorem record_setLock (s : State) (i : LockIx) (x : Option DutyIx) (j : LaneIx) : (s.setLock i x).record j = s.record j := rfl
@[simp] theorem time_setLock (s : State) (i : LockIx) (x : Option DutyIx) : (s.setLock i x).time = s.time := rfl
@[simp] theorem inc_setLock (s : State) (i : LockIx) (x : Option DutyIx) : (s.setLock i x).inc = s.inc := rfl
@[simp] theorem port_setLock (s : State) (i : LockIx) (x : Option DutyIx) : (s.setLock i x).port = s.port := rfl
@[simp] theorem busRead_setLock (s : State) (i : LockIx) (x : Option DutyIx) : (s.setLock i x).busRead = s.busRead := rfl
@[simp] theorem pending_setLock (s : State) (i : LockIx) (x : Option DutyIx) : (s.setLock i x).pending = s.pending := rfl
@[simp] theorem now_setLock (s : State) (i : LockIx) (x : Option DutyIx) : (s.setLock i x).now = s.now := rfl

-- setRecord

@[simp] theorem record_setRecord (s : State) (i j : LaneIx) (x : Option InFlight) : (s.setRecord i x).record j = if j = i then x else s.record j := by
  simp [State.record, State.setRecord, Vector.getElem_set, Fin.ext_iff, eq_comm]

@[simp] theorem duty_setRecord (s : State) (i : LaneIx) (x : Option InFlight) (j : DutyIx) : (s.setRecord i x).duty j = s.duty j := rfl
@[simp] theorem target_setRecord (s : State) (i : LaneIx) (x : Option InFlight) (j : TargetIx) : (s.setRecord i x).target j = s.target j := rfl
@[simp] theorem lane_setRecord (s : State) (i : LaneIx) (x : Option InFlight) (j : LaneIx) : (s.setRecord i x).lane j = s.lane j := rfl
@[simp] theorem list_setRecord (s : State) (i : LaneIx) (x : Option InFlight) (j : LaneIx) : (s.setRecord i x).list j = s.list j := rfl
@[simp] theorem lock_setRecord (s : State) (i : LaneIx) (x : Option InFlight) (j : LockIx) : (s.setRecord i x).lock j = s.lock j := rfl
@[simp] theorem time_setRecord (s : State) (i : LaneIx) (x : Option InFlight) : (s.setRecord i x).time = s.time := rfl
@[simp] theorem inc_setRecord (s : State) (i : LaneIx) (x : Option InFlight) : (s.setRecord i x).inc = s.inc := rfl
@[simp] theorem port_setRecord (s : State) (i : LaneIx) (x : Option InFlight) : (s.setRecord i x).port = s.port := rfl
@[simp] theorem busRead_setRecord (s : State) (i : LaneIx) (x : Option InFlight) : (s.setRecord i x).busRead = s.busRead := rfl
@[simp] theorem pending_setRecord (s : State) (i : LaneIx) (x : Option InFlight) : (s.setRecord i x).pending = s.pending := rfl
@[simp] theorem now_setRecord (s : State) (i : LaneIx) (x : Option InFlight) : (s.setRecord i x).now = s.now := rfl

-- passIncident

@[simp] theorem duty_passIncident (s : State) (i : Incident) (j : DutyIx) : (s.passIncident i).duty j = s.duty j := rfl
@[simp] theorem target_passIncident (s : State) (i : Incident) (j : TargetIx) : (s.passIncident i).target j = s.target j := rfl
@[simp] theorem lane_passIncident (s : State) (i : Incident) (j : LaneIx) : (s.passIncident i).lane j = s.lane j := rfl
@[simp] theorem list_passIncident (s : State) (i : Incident) (j : LaneIx) : (s.passIncident i).list j = s.list j := rfl
@[simp] theorem lock_passIncident (s : State) (i : Incident) (j : LockIx) : (s.passIncident i).lock j = s.lock j := rfl
@[simp] theorem record_passIncident (s : State) (i : Incident) (j : LaneIx) : (s.passIncident i).record j = s.record j := rfl
@[simp] theorem time_passIncident (s : State) (i : Incident) : (s.passIncident i).time = s.time := rfl
@[simp] theorem inc_passIncident (s : State) (i : Incident) : (s.passIncident i).inc = s.inc.pass i := rfl
@[simp] theorem port_passIncident (s : State) (i : Incident) : (s.passIncident i).port = s.port := rfl
@[simp] theorem busRead_passIncident (s : State) (i : Incident) : (s.passIncident i).busRead = s.busRead := rfl
@[simp] theorem pending_passIncident (s : State) (i : Incident) : (s.passIncident i).pending = s.pending := rfl
@[simp] theorem now_passIncident (s : State) (i : Incident) : (s.passIncident i).now = s.now := rfl

-- setLaneCause

@[simp] theorem duty_setLaneCause (s : State) (j : DutyIx) : s.setLaneCause.duty j = s.duty j := rfl
@[simp] theorem target_setLaneCause (s : State) (j : TargetIx) : s.setLaneCause.target j = s.target j := rfl
@[simp] theorem lane_setLaneCause (s : State) (j : LaneIx) : s.setLaneCause.lane j = s.lane j := rfl
@[simp] theorem list_setLaneCause (s : State) (j : LaneIx) : s.setLaneCause.list j = s.list j := rfl
@[simp] theorem lock_setLaneCause (s : State) (j : LockIx) : s.setLaneCause.lock j = s.lock j := rfl
@[simp] theorem record_setLaneCause (s : State) (j : LaneIx) : s.setLaneCause.record j = s.record j := rfl
@[simp] theorem time_setLaneCause (s : State) : s.setLaneCause.time = s.time := rfl
@[simp] theorem inc_setLaneCause (s : State) : s.setLaneCause.inc = s.inc.setLane := rfl
@[simp] theorem port_setLaneCause (s : State) : s.setLaneCause.port = s.port := rfl
@[simp] theorem busRead_setLaneCause (s : State) : s.setLaneCause.busRead = s.busRead := rfl
@[simp] theorem pending_setLaneCause (s : State) : s.setLaneCause.pending = s.pending := rfl
@[simp] theorem now_setLaneCause (s : State) : s.setLaneCause.now = s.now := rfl

-- setHoldCause

@[simp] theorem duty_setHoldCause (s : State) (j : DutyIx) : s.setHoldCause.duty j = s.duty j := rfl
@[simp] theorem target_setHoldCause (s : State) (j : TargetIx) : s.setHoldCause.target j = s.target j := rfl
@[simp] theorem lane_setHoldCause (s : State) (j : LaneIx) : s.setHoldCause.lane j = s.lane j := rfl
@[simp] theorem list_setHoldCause (s : State) (j : LaneIx) : s.setHoldCause.list j = s.list j := rfl
@[simp] theorem lock_setHoldCause (s : State) (j : LockIx) : s.setHoldCause.lock j = s.lock j := rfl
@[simp] theorem record_setHoldCause (s : State) (j : LaneIx) : s.setHoldCause.record j = s.record j := rfl
@[simp] theorem time_setHoldCause (s : State) : s.setHoldCause.time = s.time := rfl
@[simp] theorem inc_setHoldCause (s : State) : s.setHoldCause.inc = s.inc.setHold := rfl
@[simp] theorem port_setHoldCause (s : State) : s.setHoldCause.port = s.port := rfl
@[simp] theorem busRead_setHoldCause (s : State) : s.setHoldCause.busRead = s.busRead := rfl
@[simp] theorem pending_setHoldCause (s : State) : s.setHoldCause.pending = s.pending := rfl
@[simp] theorem now_setHoldCause (s : State) : s.setHoldCause.now = s.now := rfl

-- latch

@[simp] theorem duty_latch (s : State) (code : Byte) (j : DutyIx) : (s.latch code).duty j = s.duty j := rfl
@[simp] theorem target_latch (s : State) (code : Byte) (j : TargetIx) : (s.latch code).target j = s.target j := rfl
@[simp] theorem lane_latch (s : State) (code : Byte) (j : LaneIx) : (s.latch code).lane j = s.lane j := rfl
@[simp] theorem list_latch (s : State) (code : Byte) (j : LaneIx) : (s.latch code).list j = s.list j := rfl
@[simp] theorem lock_latch (s : State) (code : Byte) (j : LockIx) : (s.latch code).lock j = s.lock j := rfl
@[simp] theorem record_latch (s : State) (code : Byte) (j : LaneIx) : (s.latch code).record j = s.record j := rfl
@[simp] theorem time_latch (s : State) (code : Byte) : (s.latch code).time = s.time := rfl
@[simp] theorem inc_latch (s : State) (code : Byte) : (s.latch code).inc = s.inc := rfl
@[simp] theorem port_latch (s : State) (code : Byte) : (s.latch code).port = { s.port with latched := s.port.staging, code := code } := rfl
@[simp] theorem busRead_latch (s : State) (code : Byte) : (s.latch code).busRead = s.busRead := rfl
@[simp] theorem pending_latch (s : State) (code : Byte) : (s.latch code).pending = s.pending := rfl
@[simp] theorem now_latch (s : State) (code : Byte) : (s.latch code).now = s.now := rfl

-- discardCode

@[simp] theorem duty_discardCode (s : State) (j : DutyIx) : s.discardCode.duty j = s.duty j := rfl
@[simp] theorem target_discardCode (s : State) (j : TargetIx) : s.discardCode.target j = s.target j := rfl
@[simp] theorem lane_discardCode (s : State) (j : LaneIx) : s.discardCode.lane j = s.lane j := rfl
@[simp] theorem list_discardCode (s : State) (j : LaneIx) : s.discardCode.list j = s.list j := rfl
@[simp] theorem lock_discardCode (s : State) (j : LockIx) : s.discardCode.lock j = s.lock j := rfl
@[simp] theorem record_discardCode (s : State) (j : LaneIx) : s.discardCode.record j = s.record j := rfl
@[simp] theorem time_discardCode (s : State) : s.discardCode.time = s.time := rfl
@[simp] theorem inc_discardCode (s : State) : s.discardCode.inc = s.inc := rfl
@[simp] theorem port_discardCode (s : State) : s.discardCode.port = { s.port with collision := true } := rfl
@[simp] theorem busRead_discardCode (s : State) : s.discardCode.busRead = s.busRead := rfl
@[simp] theorem pending_discardCode (s : State) : s.discardCode.pending = s.pending := rfl
@[simp] theorem now_discardCode (s : State) : s.discardCode.now = s.now := rfl

-- clearCollision

@[simp] theorem duty_clearCollision (s : State) (j : DutyIx) : s.clearCollision.duty j = s.duty j := rfl
@[simp] theorem target_clearCollision (s : State) (j : TargetIx) : s.clearCollision.target j = s.target j := rfl
@[simp] theorem lane_clearCollision (s : State) (j : LaneIx) : s.clearCollision.lane j = s.lane j := rfl
@[simp] theorem list_clearCollision (s : State) (j : LaneIx) : s.clearCollision.list j = s.list j := rfl
@[simp] theorem lock_clearCollision (s : State) (j : LockIx) : s.clearCollision.lock j = s.lock j := rfl
@[simp] theorem record_clearCollision (s : State) (j : LaneIx) : s.clearCollision.record j = s.record j := rfl
@[simp] theorem time_clearCollision (s : State) : s.clearCollision.time = s.time := rfl
@[simp] theorem inc_clearCollision (s : State) : s.clearCollision.inc = s.inc := rfl
@[simp] theorem port_clearCollision (s : State) : s.clearCollision.port = { s.port with collision := false } := rfl
@[simp] theorem busRead_clearCollision (s : State) : s.clearCollision.busRead = s.busRead := rfl
@[simp] theorem pending_clearCollision (s : State) : s.clearCollision.pending = s.pending := rfl
@[simp] theorem now_clearCollision (s : State) : s.clearCollision.now = s.now := rfl

-- popIncident

@[simp] theorem duty_popIncident (s : State) (j : DutyIx) : s.popIncident.duty j = s.duty j := rfl
@[simp] theorem target_popIncident (s : State) (j : TargetIx) : s.popIncident.target j = s.target j := rfl
@[simp] theorem lane_popIncident (s : State) (j : LaneIx) : s.popIncident.lane j = s.lane j := rfl
@[simp] theorem list_popIncident (s : State) (j : LaneIx) : s.popIncident.list j = s.list j := rfl
@[simp] theorem lock_popIncident (s : State) (j : LockIx) : s.popIncident.lock j = s.lock j := rfl
@[simp] theorem record_popIncident (s : State) (j : LaneIx) : s.popIncident.record j = s.record j := rfl
@[simp] theorem time_popIncident (s : State) : s.popIncident.time = s.time := rfl
@[simp] theorem inc_popIncident (s : State) : s.popIncident.inc = s.inc.pop := rfl
@[simp] theorem port_popIncident (s : State) : s.popIncident.port = s.port := rfl
@[simp] theorem busRead_popIncident (s : State) : s.popIncident.busRead = s.busRead := rfl
@[simp] theorem pending_popIncident (s : State) : s.popIncident.pending = s.pending := rfl
@[simp] theorem now_popIncident (s : State) : s.popIncident.now = s.now := rfl

-- writeSummary

@[simp] theorem duty_writeSummary (s : State) (v : Word) (j : DutyIx) : (s.writeSummary v).duty j = s.duty j := rfl
@[simp] theorem target_writeSummary (s : State) (v : Word) (j : TargetIx) : (s.writeSummary v).target j = s.target j := rfl
@[simp] theorem lane_writeSummary (s : State) (v : Word) (j : LaneIx) : (s.writeSummary v).lane j = s.lane j := rfl
@[simp] theorem list_writeSummary (s : State) (v : Word) (j : LaneIx) : (s.writeSummary v).list j = s.list j := rfl
@[simp] theorem lock_writeSummary (s : State) (v : Word) (j : LockIx) : (s.writeSummary v).lock j = s.lock j := rfl
@[simp] theorem record_writeSummary (s : State) (v : Word) (j : LaneIx) : (s.writeSummary v).record j = s.record j := rfl
@[simp] theorem time_writeSummary (s : State) (v : Word) : (s.writeSummary v).time = s.time := rfl
@[simp] theorem inc_writeSummary (s : State) (v : Word) : (s.writeSummary v).inc = s.inc.writeSummary v := rfl
@[simp] theorem port_writeSummary (s : State) (v : Word) : (s.writeSummary v).port = s.port := rfl
@[simp] theorem busRead_writeSummary (s : State) (v : Word) : (s.writeSummary v).busRead = s.busRead := rfl
@[simp] theorem pending_writeSummary (s : State) (v : Word) : (s.writeSummary v).pending = s.pending := rfl
@[simp] theorem now_writeSummary (s : State) (v : Word) : (s.writeSummary v).now = s.now := rfl

-- writeEnable

@[simp] theorem duty_writeEnable (s : State) (v : Word) (j : DutyIx) : (s.writeEnable v).duty j = s.duty j := rfl
@[simp] theorem target_writeEnable (s : State) (v : Word) (j : TargetIx) : (s.writeEnable v).target j = s.target j := rfl
@[simp] theorem lane_writeEnable (s : State) (v : Word) (j : LaneIx) : (s.writeEnable v).lane j = s.lane j := rfl
@[simp] theorem list_writeEnable (s : State) (v : Word) (j : LaneIx) : (s.writeEnable v).list j = s.list j := rfl
@[simp] theorem lock_writeEnable (s : State) (v : Word) (j : LockIx) : (s.writeEnable v).lock j = s.lock j := rfl
@[simp] theorem record_writeEnable (s : State) (v : Word) (j : LaneIx) : (s.writeEnable v).record j = s.record j := rfl
@[simp] theorem time_writeEnable (s : State) (v : Word) : (s.writeEnable v).time = s.time := rfl
@[simp] theorem inc_writeEnable (s : State) (v : Word) : (s.writeEnable v).inc = s.inc.writeEnable v := rfl
@[simp] theorem port_writeEnable (s : State) (v : Word) : (s.writeEnable v).port = s.port := rfl
@[simp] theorem busRead_writeEnable (s : State) (v : Word) : (s.writeEnable v).busRead = s.busRead := rfl
@[simp] theorem pending_writeEnable (s : State) (v : Word) : (s.writeEnable v).pending = s.pending := rfl
@[simp] theorem now_writeEnable (s : State) (v : Word) : (s.writeEnable v).now = s.now := rfl

-- writeTrim

@[simp] theorem duty_writeTrim (s : State) (v : Word) (j : DutyIx) : (s.writeTrim v).duty j = s.duty j := rfl
@[simp] theorem target_writeTrim (s : State) (v : Word) (j : TargetIx) : (s.writeTrim v).target j = s.target j := rfl
@[simp] theorem lane_writeTrim (s : State) (v : Word) (j : LaneIx) : (s.writeTrim v).lane j = s.lane j := rfl
@[simp] theorem list_writeTrim (s : State) (v : Word) (j : LaneIx) : (s.writeTrim v).list j = s.list j := rfl
@[simp] theorem lock_writeTrim (s : State) (v : Word) (j : LockIx) : (s.writeTrim v).lock j = s.lock j := rfl
@[simp] theorem record_writeTrim (s : State) (v : Word) (j : LaneIx) : (s.writeTrim v).record j = s.record j := rfl
@[simp] theorem time_writeTrim (s : State) (v : Word) : (s.writeTrim v).time = s.time.writeTrim v := rfl
@[simp] theorem inc_writeTrim (s : State) (v : Word) : (s.writeTrim v).inc = s.inc := rfl
@[simp] theorem port_writeTrim (s : State) (v : Word) : (s.writeTrim v).port = s.port := rfl
@[simp] theorem busRead_writeTrim (s : State) (v : Word) : (s.writeTrim v).busRead = s.busRead := rfl
@[simp] theorem pending_writeTrim (s : State) (v : Word) : (s.writeTrim v).pending = s.pending := rfl

-- writeWindow

@[simp] theorem duty_writeWindow (s : State) (v : Word) (j : DutyIx) : (s.writeWindow v).duty j = s.duty j := rfl
@[simp] theorem target_writeWindow (s : State) (v : Word) (j : TargetIx) : (s.writeWindow v).target j = s.target j := rfl
@[simp] theorem lane_writeWindow (s : State) (v : Word) (j : LaneIx) : (s.writeWindow v).lane j = s.lane j := rfl
@[simp] theorem list_writeWindow (s : State) (v : Word) (j : LaneIx) : (s.writeWindow v).list j = s.list j := rfl
@[simp] theorem lock_writeWindow (s : State) (v : Word) (j : LockIx) : (s.writeWindow v).lock j = s.lock j := rfl
@[simp] theorem record_writeWindow (s : State) (v : Word) (j : LaneIx) : (s.writeWindow v).record j = s.record j := rfl
@[simp] theorem time_writeWindow (s : State) (v : Word) : (s.writeWindow v).time = s.time.writeWindow v := rfl
@[simp] theorem inc_writeWindow (s : State) (v : Word) : (s.writeWindow v).inc = s.inc := rfl
@[simp] theorem port_writeWindow (s : State) (v : Word) : (s.writeWindow v).port = s.port := rfl
@[simp] theorem busRead_writeWindow (s : State) (v : Word) : (s.writeWindow v).busRead = s.busRead := rfl
@[simp] theorem pending_writeWindow (s : State) (v : Word) : (s.writeWindow v).pending = s.pending := rfl

-- recordResult

@[simp] theorem duty_recordResult (s : State) (r : CmdResult) (j : DutyIx) : (s.recordResult r).duty j = s.duty j := rfl
@[simp] theorem target_recordResult (s : State) (r : CmdResult) (j : TargetIx) : (s.recordResult r).target j = s.target j := rfl
@[simp] theorem lane_recordResult (s : State) (r : CmdResult) (j : LaneIx) : (s.recordResult r).lane j = s.lane j := rfl
@[simp] theorem list_recordResult (s : State) (r : CmdResult) (j : LaneIx) : (s.recordResult r).list j = s.list j := rfl
@[simp] theorem lock_recordResult (s : State) (r : CmdResult) (j : LockIx) : (s.recordResult r).lock j = s.lock j := rfl
@[simp] theorem record_recordResult (s : State) (r : CmdResult) (j : LaneIx) : (s.recordResult r).record j = s.record j := rfl
@[simp] theorem time_recordResult (s : State) (r : CmdResult) : (s.recordResult r).time = s.time := rfl
@[simp] theorem inc_recordResult (s : State) (r : CmdResult) : (s.recordResult r).inc = s.inc.setCommand := rfl
@[simp] theorem port_recordResult (s : State) (r : CmdResult) : (s.recordResult r).port = { s.port with result := r, state := .ready } := rfl
@[simp] theorem busRead_recordResult (s : State) (r : CmdResult) : (s.recordResult r).busRead = s.busRead := rfl
@[simp] theorem pending_recordResult (s : State) (r : CmdResult) : (s.recordResult r).pending = s.pending := rfl
@[simp] theorem now_recordResult (s : State) (r : CmdResult) : (s.recordResult r).now = s.now := rfl

-- the reset state

@[simp] theorem duty_reset (j : DutyIx) : State.reset.duty j = {} := by simp [State.duty, State.reset]
@[simp] theorem target_reset (j : TargetIx) : State.reset.target j = {} := by simp [State.target, State.reset]
@[simp] theorem lane_reset (j : LaneIx) : State.reset.lane j = {} := by simp [State.lane, State.reset]
@[simp] theorem list_reset (j : LaneIx) : State.reset.list j = [] := by simp [State.list, State.reset]
@[simp] theorem lock_reset (j : LockIx) : State.reset.lock j = none := by simp [State.lock, State.reset]
@[simp] theorem record_reset (j : LaneIx) : State.reset.record j = none := by simp [State.record, State.reset]

-- markTick

@[simp] theorem duty_markTick (s : State) (d : DutyIx) : s.markTick.duty d = s.duty d := rfl
@[simp] theorem target_markTick (s : State) (g : TargetIx) : s.markTick.target g = s.target g := rfl
@[simp] theorem lane_markTick (s : State) (l : LaneIx) : s.markTick.lane l = s.lane l := rfl
@[simp] theorem list_markTick (s : State) (l : LaneIx) : s.markTick.list l = s.list l := rfl
@[simp] theorem lock_markTick (s : State) (k : LockIx) : s.markTick.lock k = s.lock k := rfl
@[simp] theorem time_markTick (s : State) : s.markTick.time = s.time := rfl
@[simp] theorem inc_markTick (s : State) : s.markTick.inc = s.inc := rfl
@[simp] theorem port_markTick (s : State) : s.markTick.port = s.port := rfl
@[simp] theorem busRead_markTick (s : State) : s.markTick.busRead = s.busRead := rfl
@[simp] theorem pending_markTick (s : State) : s.markTick.pending = s.pending := rfl

/-- The mark of a begun tick in the record of a lane (R133, R136; log 7). -/
@[simp] theorem record_markTick (s : State) (l : LaneIx) :
    s.markTick.record l =
      if (s.lane l).clockHeld = true then s.record l else (s.record l).map fun r => { r with tickSinceRead := true } := by
  simp [State.markTick, State.record, State.lane]

end Sys2Proof.Machine
end

