-- ==== Sys2Proof/Laws/Ops.lean ====
section
/-! SUPPORT. What each shared operation of Machine/Ops.lean leaves as it was, one lemma a field, and what it writes. -/

set_option Elab.async false

namespace Sys2Proof.Machine

-- placeTicket

@[simp] theorem target_placeTicket (s : State) (d : DutyIx) (j : TargetIx) : (s.placeTicket d).target j = s.target j := by
  simp [State.placeTicket]
@[simp] theorem lane_placeTicket (s : State) (d : DutyIx) (j : LaneIx) : (s.placeTicket d).lane j = s.lane j := by
  simp [State.placeTicket]
@[simp] theorem lock_placeTicket (s : State) (d : DutyIx) (j : LockIx) : (s.placeTicket d).lock j = s.lock j := by
  simp [State.placeTicket]
@[simp] theorem record_placeTicket (s : State) (d : DutyIx) (j : LaneIx) : (s.placeTicket d).record j = s.record j := by
  simp [State.placeTicket]
@[simp] theorem time_placeTicket (s : State) (d : DutyIx) : (s.placeTicket d).time = s.time := by
  simp [State.placeTicket]
@[simp] theorem inc_placeTicket (s : State) (d : DutyIx) : (s.placeTicket d).inc = s.inc := by
  simp [State.placeTicket]
@[simp] theorem port_placeTicket (s : State) (d : DutyIx) : (s.placeTicket d).port = s.port := by
  simp [State.placeTicket]
@[simp] theorem busRead_placeTicket (s : State) (d : DutyIx) : (s.placeTicket d).busRead = s.busRead := by
  simp [State.placeTicket]
@[simp] theorem pending_placeTicket (s : State) (d : DutyIx) : (s.placeTicket d).pending = s.pending := by
  simp [State.placeTicket]
@[simp] theorem now_placeTicket (s : State) (d : DutyIx) : (s.placeTicket d).now = s.now := by
  simp [State.now]

-- offerTicket

@[simp] theorem target_offerTicket (s : State) (d : DutyIx) (j : TargetIx) : (s.offerTicket d).target j = s.target j := by
  unfold State.offerTicket; try dsimp only
  (repeat' split) <;> simp
@[simp] theorem lane_offerTicket (s : State) (d : DutyIx) (j : LaneIx) : (s.offerTicket d).lane j = s.lane j := by
  unfold State.offerTicket; try dsimp only
  (repeat' split) <;> simp
@[simp] theorem lock_offerTicket (s : State) (d : DutyIx) (j : LockIx) : (s.offerTicket d).lock j = s.lock j := by
  unfold State.offerTicket; try dsimp only
  (repeat' split) <;> simp
@[simp] theorem record_offerTicket (s : State) (d : DutyIx) (j : LaneIx) : (s.offerTicket d).record j = s.record j := by
  unfold State.offerTicket; try dsimp only
  (repeat' split) <;> simp
@[simp] theorem time_offerTicket (s : State) (d : DutyIx) : (s.offerTicket d).time = s.time := by
  unfold State.offerTicket; try dsimp only
  (repeat' split) <;> simp
@[simp] theorem inc_offerTicket (s : State) (d : DutyIx) : (s.offerTicket d).inc = s.inc := by
  unfold State.offerTicket; try dsimp only
  (repeat' split) <;> simp
@[simp] theorem port_offerTicket (s : State) (d : DutyIx) : (s.offerTicket d).port = s.port := by
  unfold State.offerTicket; try dsimp only
  (repeat' split) <;> simp
@[simp] theorem busRead_offerTicket (s : State) (d : DutyIx) : (s.offerTicket d).busRead = s.busRead := by
  unfold State.offerTicket; try dsimp only
  (repeat' split) <;> simp
@[simp] theorem pending_offerTicket (s : State) (d : DutyIx) : (s.offerTicket d).pending = s.pending := by
  unfold State.offerTicket; try dsimp only
  (repeat' split) <;> simp
@[simp] theorem now_offerTicket (s : State) (d : DutyIx) : (s.offerTicket d).now = s.now := by
  simp [State.now]

-- removeTicket

@[simp] theorem target_removeTicket (s : State) (d : DutyIx) (j : TargetIx) : (s.removeTicket d).target j = s.target j := by
  simp [State.removeTicket]
@[simp] theorem lane_removeTicket (s : State) (d : DutyIx) (j : LaneIx) : (s.removeTicket d).lane j = s.lane j := by
  simp [State.removeTicket]
@[simp] theorem lock_removeTicket (s : State) (d : DutyIx) (j : LockIx) : (s.removeTicket d).lock j = s.lock j := by
  simp [State.removeTicket]
@[simp] theorem record_removeTicket (s : State) (d : DutyIx) (j : LaneIx) : (s.removeTicket d).record j = s.record j := by
  simp [State.removeTicket]
@[simp] theorem time_removeTicket (s : State) (d : DutyIx) : (s.removeTicket d).time = s.time := by
  simp [State.removeTicket]
@[simp] theorem inc_removeTicket (s : State) (d : DutyIx) : (s.removeTicket d).inc = s.inc := by
  simp [State.removeTicket]
@[simp] theorem port_removeTicket (s : State) (d : DutyIx) : (s.removeTicket d).port = s.port := by
  simp [State.removeTicket]
@[simp] theorem busRead_removeTicket (s : State) (d : DutyIx) : (s.removeTicket d).busRead = s.busRead := by
  simp [State.removeTicket]
@[simp] theorem pending_removeTicket (s : State) (d : DutyIx) : (s.removeTicket d).pending = s.pending := by
  simp [State.removeTicket]
@[simp] theorem now_removeTicket (s : State) (d : DutyIx) : (s.removeTicket d).now = s.now := by
  simp [State.now]

/-- The duty records after an offer (R42). -/
theorem duty_offerTicket (s : State) (d e : DutyIx) :
    (s.offerTicket d).duty e =
      if e = d then (s.duty d).offered else s.duty e := by
  unfold State.offerTicket Duty.offered
  by_cases h : (s.duty d).getsTicket = true
  · by_cases he : e = d <;> simp [h, he, State.placeTicket]
  · have h' : (s.duty d).getsTicket = false := by simpa using h
    by_cases he : e = d <;> simp [h', he]

/-- The due lists after an offer (R45). -/
theorem list_offerTicket (s : State) (d : DutyIx) (l : LaneIx) :
    (s.offerTicket d).list l =
      if l = s.laneOf d ∧ (s.duty d).getsTicket = true then s.list l ++ [d] else s.list l := by
  unfold State.offerTicket
  by_cases h : (s.duty d).getsTicket = true
  · by_cases hl : l = s.laneOf d <;> simp [h, hl, State.placeTicket]
  · have h' : (s.duty d).getsTicket = false := by simpa using h
    simp [h']

/-- The duty records after a removal (R46). -/
@[simp] theorem duty_removeTicket (s : State) (d e : DutyIx) :
    (s.removeTicket d).duty e = if e = d then { s.duty d with ticket := false } else s.duty e := by
  simp [State.removeTicket]

/-- The due lists after a removal (R46). -/
@[simp] theorem list_removeTicket (s : State) (d : DutyIx) (l : LaneIx) :
    (s.removeTicket d).list l = if l = s.laneOf d then (s.list l).filter fun e => e ≠ d else s.list l := by
  by_cases hl : l = s.laneOf d <;> simp [State.removeTicket, hl]

-- releaseLock

@[simp] theorem duty_releaseLock (s : State) (k : LockIx) (d : DutyIx) (j : DutyIx) : (s.releaseLock k d).duty j = s.duty j := by
  unfold State.releaseLock; try dsimp only
  (repeat' split) <;> simp
@[simp] theorem target_releaseLock (s : State) (k : LockIx) (d : DutyIx) (j : TargetIx) : (s.releaseLock k d).target j = s.target j := by
  unfold State.releaseLock; try dsimp only
  (repeat' split) <;> simp
@[simp] theorem lane_releaseLock (s : State) (k : LockIx) (d : DutyIx) (j : LaneIx) : (s.releaseLock k d).lane j = s.lane j := by
  unfold State.releaseLock; try dsimp only
  (repeat' split) <;> simp
@[simp] theorem list_releaseLock (s : State) (k : LockIx) (d : DutyIx) (j : LaneIx) : (s.releaseLock k d).list j = s.list j := by
  unfold State.releaseLock; try dsimp only
  (repeat' split) <;> simp
@[simp] theorem record_releaseLock (s : State) (k : LockIx) (d : DutyIx) (j : LaneIx) : (s.releaseLock k d).record j = s.record j := by
  unfold State.releaseLock; try dsimp only
  (repeat' split) <;> simp
@[simp] theorem time_releaseLock (s : State) (k : LockIx) (d : DutyIx) : (s.releaseLock k d).time = s.time := by
  unfold State.releaseLock; try dsimp only
  (repeat' split) <;> simp
@[simp] theorem inc_releaseLock (s : State) (k : LockIx) (d : DutyIx) : (s.releaseLock k d).inc = s.inc := by
  unfold State.releaseLock; try dsimp only
  (repeat' split) <;> simp
@[simp] theorem port_releaseLock (s : State) (k : LockIx) (d : DutyIx) : (s.releaseLock k d).port = s.port := by
  unfold State.releaseLock; try dsimp only
  (repeat' split) <;> simp
@[simp] theorem busRead_releaseLock (s : State) (k : LockIx) (d : DutyIx) : (s.releaseLock k d).busRead = s.busRead := by
  unfold State.releaseLock; try dsimp only
  (repeat' split) <;> simp
@[simp] theorem pending_releaseLock (s : State) (k : LockIx) (d : DutyIx) : (s.releaseLock k d).pending = s.pending := by
  unfold State.releaseLock; try dsimp only
  (repeat' split) <;> simp
@[simp] theorem now_releaseLock (s : State) (k : LockIx) (d : DutyIx) : (s.releaseLock k d).now = s.now := by
  simp [State.now]

/-- The locks after a release (R62). -/
theorem lock_releaseLock (s : State) (k : LockIx) (d : DutyIx) (j : LockIx) :
    (s.releaseLock k d).lock j = if j = k ∧ s.lock k = some d then none else s.lock j := by
  unfold State.releaseLock
  by_cases h : s.lock k = some d
  · by_cases hj : j = k <;> simp [h, hj]
  · simp [h]

-- releaseLockOf

@[simp] theorem duty_releaseLockOf (s : State) (d : DutyIx) (j : DutyIx) : (s.releaseLockOf d).duty j = s.duty j := by
  unfold State.releaseLockOf; try dsimp only
  (repeat' split) <;> simp
@[simp] theorem target_releaseLockOf (s : State) (d : DutyIx) (j : TargetIx) : (s.releaseLockOf d).target j = s.target j := by
  unfold State.releaseLockOf; try dsimp only
  (repeat' split) <;> simp
@[simp] theorem lane_releaseLockOf (s : State) (d : DutyIx) (j : LaneIx) : (s.releaseLockOf d).lane j = s.lane j := by
  unfold State.releaseLockOf; try dsimp only
  (repeat' split) <;> simp
@[simp] theorem list_releaseLockOf (s : State) (d : DutyIx) (j : LaneIx) : (s.releaseLockOf d).list j = s.list j := by
  unfold State.releaseLockOf; try dsimp only
  (repeat' split) <;> simp
@[simp] theorem record_releaseLockOf (s : State) (d : DutyIx) (j : LaneIx) : (s.releaseLockOf d).record j = s.record j := by
  unfold State.releaseLockOf; try dsimp only
  (repeat' split) <;> simp
@[simp] theorem time_releaseLockOf (s : State) (d : DutyIx) : (s.releaseLockOf d).time = s.time := by
  unfold State.releaseLockOf; try dsimp only
  (repeat' split) <;> simp
@[simp] theorem inc_releaseLockOf (s : State) (d : DutyIx) : (s.releaseLockOf d).inc = s.inc := by
  unfold State.releaseLockOf; try dsimp only
  (repeat' split) <;> simp
@[simp] theorem port_releaseLockOf (s : State) (d : DutyIx) : (s.releaseLockOf d).port = s.port := by
  unfold State.releaseLockOf; try dsimp only
  (repeat' split) <;> simp
@[simp] theorem busRead_releaseLockOf (s : State) (d : DutyIx) : (s.releaseLockOf d).busRead = s.busRead := by
  unfold State.releaseLockOf; try dsimp only
  (repeat' split) <;> simp
@[simp] theorem pending_releaseLockOf (s : State) (d : DutyIx) : (s.releaseLockOf d).pending = s.pending := by
  unfold State.releaseLockOf; try dsimp only
  (repeat' split) <;> simp
@[simp] theorem now_releaseLockOf (s : State) (d : DutyIx) : (s.releaseLockOf d).now = s.now := by
  simp [State.now]

-- pressedReport

@[simp] theorem duty_pressedReport (s : State) (l : LaneIx) (j : DutyIx) : (s.pressedReport l).duty j = s.duty j := by
  unfold State.pressedReport; dsimp only; split <;> simp
@[simp] theorem target_pressedReport (s : State) (l : LaneIx) (j : TargetIx) : (s.pressedReport l).target j = s.target j := by
  unfold State.pressedReport; dsimp only; split <;> simp
@[simp] theorem list_pressedReport (s : State) (l : LaneIx) (j : LaneIx) : (s.pressedReport l).list j = s.list j := by
  unfold State.pressedReport; dsimp only; split <;> simp
@[simp] theorem lock_pressedReport (s : State) (l : LaneIx) (j : LockIx) : (s.pressedReport l).lock j = s.lock j := by
  unfold State.pressedReport; dsimp only; split <;> simp
@[simp] theorem record_pressedReport (s : State) (l : LaneIx) (j : LaneIx) : (s.pressedReport l).record j = s.record j := by
  unfold State.pressedReport; dsimp only; split <;> simp
@[simp] theorem time_pressedReport (s : State) (l : LaneIx) : (s.pressedReport l).time = s.time := by
  unfold State.pressedReport; dsimp only; split <;> simp
@[simp] theorem port_pressedReport (s : State) (l : LaneIx) : (s.pressedReport l).port = s.port := by
  unfold State.pressedReport; dsimp only; split <;> simp
@[simp] theorem busRead_pressedReport (s : State) (l : LaneIx) : (s.pressedReport l).busRead = s.busRead := by
  unfold State.pressedReport; dsimp only; split <;> simp
@[simp] theorem pending_pressedReport (s : State) (l : LaneIx) : (s.pressedReport l).pending = s.pending := by
  unfold State.pressedReport; dsimp only; split <;> simp
@[simp] theorem now_pressedReport (s : State) (l : LaneIx) : (s.pressedReport l).now = s.now := by
  simp [State.now]

/-- A pressed report with the lane not in a yielding blackout has no effect (R124). -/
theorem pressedReport_of_not (s : State) (l : LaneIx) (h : ¬((s.lane l).gate = .blackout ∧ (s.lane l).yielding = true)) :
    s.pressedReport l = s := by
  unfold State.pressedReport
  simp only [Bool.and_eq_true, decide_eq_true_eq]
  rw [if_neg h]

/-- A pressed report in a yielding blackout (R124). -/
theorem pressedReport_of_yield (s : State) (l : LaneIx) (h : (s.lane l).gate = .blackout) (hy : (s.lane l).yielding = true) :
    s.pressedReport l =
      (s.setLane l { s.lane l with gate := .opened, blackoutEnd := none, yielding := false }).setLaneCause := by
  unfold State.pressedReport
  simp [h, hy]

-- reportIfPressed

@[simp] theorem duty_reportIfPressed (s : State) (d : DutyIx) (j : DutyIx) : (s.reportIfPressed d).duty j = s.duty j := by
  unfold State.reportIfPressed; try dsimp only
  (repeat' split) <;> simp
@[simp] theorem target_reportIfPressed (s : State) (d : DutyIx) (j : TargetIx) : (s.reportIfPressed d).target j = s.target j := by
  unfold State.reportIfPressed; try dsimp only
  (repeat' split) <;> simp
@[simp] theorem list_reportIfPressed (s : State) (d : DutyIx) (j : LaneIx) : (s.reportIfPressed d).list j = s.list j := by
  unfold State.reportIfPressed; try dsimp only
  (repeat' split) <;> simp
@[simp] theorem lock_reportIfPressed (s : State) (d : DutyIx) (j : LockIx) : (s.reportIfPressed d).lock j = s.lock j := by
  unfold State.reportIfPressed; try dsimp only
  (repeat' split) <;> simp
@[simp] theorem record_reportIfPressed (s : State) (d : DutyIx) (j : LaneIx) : (s.reportIfPressed d).record j = s.record j := by
  unfold State.reportIfPressed; try dsimp only
  (repeat' split) <;> simp
@[simp] theorem time_reportIfPressed (s : State) (d : DutyIx) : (s.reportIfPressed d).time = s.time := by
  unfold State.reportIfPressed; try dsimp only
  (repeat' split) <;> simp
@[simp] theorem port_reportIfPressed (s : State) (d : DutyIx) : (s.reportIfPressed d).port = s.port := by
  unfold State.reportIfPressed; try dsimp only
  (repeat' split) <;> simp
@[simp] theorem busRead_reportIfPressed (s : State) (d : DutyIx) : (s.reportIfPressed d).busRead = s.busRead := by
  unfold State.reportIfPressed; try dsimp only
  (repeat' split) <;> simp
@[simp] theorem pending_reportIfPressed (s : State) (d : DutyIx) : (s.reportIfPressed d).pending = s.pending := by
  unfold State.reportIfPressed; try dsimp only
  (repeat' split) <;> simp
@[simp] theorem now_reportIfPressed (s : State) (d : DutyIx) : (s.reportIfPressed d).now = s.now := by
  simp [State.now]

-- startRunning

@[simp] theorem target_startRunning (s : State) (d : DutyIx) (j : TargetIx) : (s.startRunning d).target j = s.target j := by
  simp [State.startRunning]
@[simp] theorem lock_startRunning (s : State) (d : DutyIx) (j : LockIx) : (s.startRunning d).lock j = s.lock j := by
  simp [State.startRunning]
@[simp] theorem record_startRunning (s : State) (d : DutyIx) (j : LaneIx) : (s.startRunning d).record j = s.record j := by
  simp [State.startRunning]
@[simp] theorem time_startRunning (s : State) (d : DutyIx) : (s.startRunning d).time = s.time := by
  simp [State.startRunning]
@[simp] theorem port_startRunning (s : State) (d : DutyIx) : (s.startRunning d).port = s.port := by
  simp [State.startRunning]
@[simp] theorem busRead_startRunning (s : State) (d : DutyIx) : (s.startRunning d).busRead = s.busRead := by
  simp [State.startRunning]
@[simp] theorem pending_startRunning (s : State) (d : DutyIx) : (s.startRunning d).pending = s.pending := by
  simp [State.startRunning]
@[simp] theorem now_startRunning (s : State) (d : DutyIx) : (s.startRunning d).now = s.now := by
  simp [State.now]

-- stopDuty

@[simp] theorem target_stopDuty (s : State) (d : DutyIx) (j : TargetIx) : (s.stopDuty d).target j = s.target j := by
  simp [State.stopDuty]
@[simp] theorem lane_stopDuty (s : State) (d : DutyIx) (j : LaneIx) : (s.stopDuty d).lane j = s.lane j := by
  simp [State.stopDuty]
@[simp] theorem lock_stopDuty (s : State) (d : DutyIx) (j : LockIx) : (s.stopDuty d).lock j = s.lock j := by
  simp [State.stopDuty]
@[simp] theorem record_stopDuty (s : State) (d : DutyIx) (j : LaneIx) : (s.stopDuty d).record j = s.record j := by
  simp [State.stopDuty]
@[simp] theorem time_stopDuty (s : State) (d : DutyIx) : (s.stopDuty d).time = s.time := by
  simp [State.stopDuty]
@[simp] theorem inc_stopDuty (s : State) (d : DutyIx) : (s.stopDuty d).inc = s.inc := by
  simp [State.stopDuty]
@[simp] theorem port_stopDuty (s : State) (d : DutyIx) : (s.stopDuty d).port = s.port := by
  simp [State.stopDuty]
@[simp] theorem busRead_stopDuty (s : State) (d : DutyIx) : (s.stopDuty d).busRead = s.busRead := by
  simp [State.stopDuty]
@[simp] theorem pending_stopDuty (s : State) (d : DutyIx) : (s.stopDuty d).pending = s.pending := by
  simp [State.stopDuty]
@[simp] theorem now_stopDuty (s : State) (d : DutyIx) : (s.stopDuty d).now = s.now := by
  simp [State.now]

-- faultDuty

@[simp] theorem target_faultDuty (s : State) (d : DutyIx) (j : TargetIx) : (s.faultDuty d).target j = s.target j := by
  simp [State.faultDuty]
@[simp] theorem lane_faultDuty (s : State) (d : DutyIx) (j : LaneIx) : (s.faultDuty d).lane j = s.lane j := by
  simp [State.faultDuty]
@[simp] theorem lock_faultDuty (s : State) (d : DutyIx) (j : LockIx) : (s.faultDuty d).lock j = s.lock j := by
  simp [State.faultDuty]
@[simp] theorem record_faultDuty (s : State) (d : DutyIx) (j : LaneIx) : (s.faultDuty d).record j = s.record j := by
  simp [State.faultDuty]
@[simp] theorem time_faultDuty (s : State) (d : DutyIx) : (s.faultDuty d).time = s.time := by
  simp [State.faultDuty]
@[simp] theorem inc_faultDuty (s : State) (d : DutyIx) : (s.faultDuty d).inc = s.inc := by
  simp [State.faultDuty]
@[simp] theorem port_faultDuty (s : State) (d : DutyIx) : (s.faultDuty d).port = s.port := by
  simp [State.faultDuty]
@[simp] theorem busRead_faultDuty (s : State) (d : DutyIx) : (s.faultDuty d).busRead = s.busRead := by
  simp [State.faultDuty]
@[simp] theorem pending_faultDuty (s : State) (d : DutyIx) : (s.faultDuty d).pending = s.pending := by
  simp [State.faultDuty]
@[simp] theorem now_faultDuty (s : State) (d : DutyIx) : (s.faultDuty d).now = s.now := by
  simp [State.now]

/-- The duty records after a stop (R11). -/
@[simp] theorem duty_stopDuty (s : State) (d e : DutyIx) :
    (s.stopDuty d).duty e =
      if e = d then { s.duty d with state := .stopped, ticket := false, catchUp := false, forced := false, nextBoundary := none }
      else s.duty e := by
  by_cases he : e = d <;> simp [State.stopDuty, he]

/-- The duty records after a fault (R17). -/
@[simp] theorem duty_faultDuty (s : State) (d e : DutyIx) :
    (s.faultDuty d).duty e =
      if e = d then
        { s.duty d with
          state := .faulted, ticket := false, catchUp := false, forced := false, nextBoundary := none, inFlight := false }
      else s.duty e := by
  by_cases he : e = d <;> simp [State.faultDuty, he]

-- dropCarriedLock

@[simp] theorem duty_dropCarriedLock (s : State) (d : DutyIx) (j : DutyIx) : (s.dropCarriedLock d).duty j = s.duty j := by
  unfold State.dropCarriedLock; dsimp only; (repeat' split) <;> simp
@[simp] theorem target_dropCarriedLock (s : State) (d : DutyIx) (j : TargetIx) : (s.dropCarriedLock d).target j = s.target j := by
  unfold State.dropCarriedLock; dsimp only; (repeat' split) <;> simp
@[simp] theorem list_dropCarriedLock (s : State) (d : DutyIx) (j : LaneIx) : (s.dropCarriedLock d).list j = s.list j := by
  unfold State.dropCarriedLock; dsimp only; (repeat' split) <;> simp
@[simp] theorem lock_dropCarriedLock (s : State) (d : DutyIx) (j : LockIx) : (s.dropCarriedLock d).lock j = s.lock j := by
  unfold State.dropCarriedLock; dsimp only; (repeat' split) <;> simp
@[simp] theorem record_dropCarriedLock (s : State) (d : DutyIx) (j : LaneIx) : (s.dropCarriedLock d).record j = s.record j := by
  unfold State.dropCarriedLock; dsimp only; (repeat' split) <;> simp
@[simp] theorem time_dropCarriedLock (s : State) (d : DutyIx) : (s.dropCarriedLock d).time = s.time := by
  unfold State.dropCarriedLock; dsimp only; (repeat' split) <;> simp
@[simp] theorem inc_dropCarriedLock (s : State) (d : DutyIx) : (s.dropCarriedLock d).inc = s.inc := by
  unfold State.dropCarriedLock; dsimp only; (repeat' split) <;> simp
@[simp] theorem port_dropCarriedLock (s : State) (d : DutyIx) : (s.dropCarriedLock d).port = s.port := by
  unfold State.dropCarriedLock; dsimp only; (repeat' split) <;> simp
@[simp] theorem busRead_dropCarriedLock (s : State) (d : DutyIx) : (s.dropCarriedLock d).busRead = s.busRead := by
  unfold State.dropCarriedLock; dsimp only; (repeat' split) <;> simp
@[simp] theorem pending_dropCarriedLock (s : State) (d : DutyIx) : (s.dropCarriedLock d).pending = s.pending := by
  unfold State.dropCarriedLock; dsimp only; (repeat' split) <;> simp
@[simp] theorem now_dropCarriedLock (s : State) (d : DutyIx) : (s.dropCarriedLock d).now = s.now := by
  simp [State.now]

-- vacateDuty

@[simp] theorem target_vacateDuty (s : State) (d : DutyIx) (j : TargetIx) : (s.vacateDuty d).target j = s.target j := by
  simp [State.vacateDuty]
@[simp] theorem record_vacateDuty (s : State) (d : DutyIx) (j : LaneIx) : (s.vacateDuty d).record j = s.record j := by
  simp [State.vacateDuty]
@[simp] theorem time_vacateDuty (s : State) (d : DutyIx) : (s.vacateDuty d).time = s.time := by
  simp [State.vacateDuty]
@[simp] theorem inc_vacateDuty (s : State) (d : DutyIx) : (s.vacateDuty d).inc = s.inc := by
  simp [State.vacateDuty]
@[simp] theorem port_vacateDuty (s : State) (d : DutyIx) : (s.vacateDuty d).port = s.port := by
  simp [State.vacateDuty]
@[simp] theorem busRead_vacateDuty (s : State) (d : DutyIx) : (s.vacateDuty d).busRead = s.busRead := by
  simp [State.vacateDuty]
@[simp] theorem pending_vacateDuty (s : State) (d : DutyIx) : (s.vacateDuty d).pending = s.pending := by
  simp [State.vacateDuty]
@[simp] theorem now_vacateDuty (s : State) (d : DutyIx) : (s.vacateDuty d).now = s.now := by
  simp [State.now]

/-- The duty records after a vacating (R14). -/
@[simp] theorem duty_vacateDuty (s : State) (d e : DutyIx) :
    (s.vacateDuty d).duty e = if e = d then {} else s.duty e := by
  by_cases he : e = d <;> simp [State.vacateDuty, he]

-- The owners' answers

/-- A list of checks none of which fails gives no failure (R5, R92, R116). -/
theorem firstFailure_none {cs : List (Bool × CmdResult)} (h : ∀ c ∈ cs, c.1 = false) : firstFailure cs = none := by
  induction cs with
  | nil => rfl
  | cons c rest ih =>
    obtain ⟨b, r⟩ := c
    have hb : b = false := h (b, r) (by simp)
    subst hb
    simpa [firstFailure] using ih fun c hc => h c (by simp [hc])

/-- The result of the first failure (R5, R92, R116). -/
theorem firstFailure_mem {cs : List (Bool × CmdResult)} {r : CmdResult} (h : firstFailure cs = some r) : (true, r) ∈ cs := by
  induction cs with
  | nil => simp [firstFailure] at h
  | cons c rest ih =>
    obtain ⟨b, q⟩ := c
    cases b with
    | true =>
      simp only [firstFailure, if_true, Option.some.injEq] at h
      simp [h]
    | false =>
      simp only [firstFailure] at h
      simp [ih h]

/-- A command that passes every check acts. -/
theorem checked_of_pass {cs : List (Bool × CmdResult)} (body : Answer) (h : ∀ c ∈ cs, c.1 = false) :
    Answer.checked cs body = body := by
  simp [Answer.checked, firstFailure_none h]

end Sys2Proof.Machine
end

