-- ==== Sys2Proof/Laws/Looks.lean ====
section
/-! SUPPORT. What a look considers, by fields, the pins at which a frame begins, and what the looks of one event can do:
`looks_looked` says it once, and no proof unfolds the rounds. -/

set_option Elab.async false

namespace Sys2Proof.Machine

-- What a look considers, by fields

theorem lockOf_eq_some_iff (s : State) (d : DutyIx) (k : LockIx) :
    s.lockOf d = some k ↔ (s.duty d).defn.shareGroup = k.val + 1 := by
  unfold State.lockOf lockOfGroup
  split
  · rw [Option.some.injEq, Fin.ext_iff]
    simp
    omega
  · have := k.isLt
    simp
    omega

/-- The lock of a duty is FREE, or it needs none (R51). -/
theorem lockFree_iff (s : State) (d : DutyIx) :
    s.lockFree d = true ↔ ∀ k : LockIx, (s.duty d).defn.shareGroup = k.val + 1 → s.lock k = none := by
  simp only [← lockOf_eq_some_iff]
  unfold State.lockFree
  cases s.lockOf d <;> simp

theorem eligible_iff (s : State) (d : DutyIx) : s.eligible d = true ↔ s.eligibleByFields d := by
  unfold State.eligible State.eligibleByFields
  rw [Bool.and_eq_true, Bool.and_eq_true, lockFree_iff, and_assoc]
  refine and_congr (by simp [State.eligibleByTarget]) (and_congr ?_ Iff.rfl)
  cases h : (s.duty d).backoffUntil <;> simp [State.eligibleByBackoff, absentOrReached, reached, h]

theorem exitReady_iff (s : State) (l : LaneIx) (g : TargetIx) : s.exitReady l g = true ↔ s.exitReadyByFields l g := by
  cases h : (s.target g).deadline <;>
    simp [State.exitReady, State.exitReadyByFields, absentOrReached, reached, h, and_assoc, Classical.or_iff_not_imp_left]

theorem entryReady_iff (s : State) (l : LaneIx) (g : TargetIx) :
    s.entryReady l g = true ↔ s.entryReadyByFields l g := by
  simp [State.entryReady, State.entryReadyByFields, State.noneInFlight, State.names, allDuties, and_assoc, imp_iff_not_or,
    or_assoc]

theorem advanceCandidate_iff (s : State) (l : LaneIx) (d : DutyIx) :
    s.advanceCandidate l d = true ↔ s.advanceByFields l d := by
  simp [State.advanceCandidate, State.advanceByFields, eligible_iff, and_assoc]

-- Pins

theorem idleLevels_idlePins (x : Lane) : x.idleLevels x.idlePins := by
  unfold Lane.idleLevels Lane.idlePins
  rcases hm : x.mode <;> rcases hc : x.configured <;> simp

/-- The pins at which a frame begins, bit by bit of the select lines (R132). -/
theorem frameBegun_framePins (x : Lane) (address : Byte) : x.frameBegun address (x.framePins address) := by
  refine ⟨rfl, ?_, fun hm n hn => ?_, fun hm => ?_⟩
  · unfold Lane.idleLevels Lane.framePins Lane.idlePins
    rcases hm : x.mode <;> rcases hc : x.configured <;> simp
  · have hbit : (BitVec.ofNat 8 (2 ^ address.toNat)).getLsbD n = decide (n = address.toNat) := by
      rw [BitVec.getLsbD_ofNat, Nat.testBit_two_pow]
      simp [hn, eq_comm]
    have hones : (0xFF : BitVec 8).getLsbD n = true := by interval_cases n <;> decide
    simp only [Lane.framePins, hm, BitVec.getLsbD_xor, hbit, hones]
    by_cases h : n = address.toNat <;> simp [h]
  · simp only [Lane.framePins, Lane.idlePins, hm, ite_self]

-- One issue

/-- What the choice of a look at the lane `l` says of its candidate (R54 to R56). -/
def State.canIssue (s : State) (l : LaneIx) : Candidate → Prop
  | .exit g => (s.target g).defn.lane = l ∧ (s.target g).holdTransaction = .exitPending
  | .entry g => (s.target g).defn.lane = l ∧ (s.target g).holdTransaction = .entryPending
  | .duty d => s.lockFree d = true

theorem lockFree_of_eligible {s : State} {d : DutyIx} (h : s.eligible d = true) : s.lockFree d = true := by
  simp only [State.eligible, Bool.and_eq_true] at h
  exact h.2

theorem canIssue_of_bestAdvance {s : State} {l : LaneIx} {d : DutyIx} (h : s.bestAdvance l = some d) :
    s.lockFree d = true := by
  have key : ∀ (ds : List DutyIx) (b : Option DutyIx), (∀ e, b = some e → s.lockFree e = true) →
      ∀ e, ds.foldl (fun best d =>
        if s.advanceCandidate l d then
          match best with
          | none => some d
          | some b => if (s.duty b).owed < (s.duty d).owed then some d else some b
        else best) b = some e → s.lockFree e = true := by
    intro ds
    induction ds with
    | nil => intro b hb e he; exact hb e he
    | cons c rest ih =>
      intro b hb e he
      refine ih _ ?_ e he
      intro f hf
      beta_reduce at hf
      by_cases hc : s.advanceCandidate l c = true
      · have hfree : s.lockFree c = true := by
          simp only [State.advanceCandidate, Bool.and_eq_true] at hc
          exact lockFree_of_eligible hc.2
        rw [if_pos hc] at hf
        cases b with
        | none => simp only [Option.some.injEq] at hf; exact hf ▸ hfree
        | some g =>
          simp only at hf
          split at hf
          · simp only [Option.some.injEq] at hf; exact hf ▸ hfree
          · exact hb f hf
      · rw [if_neg hc] at hf
        exact hb f hf
  exact key allDuties none (by simp) d h

theorem canIssue_of_choose {s : State} {l : LaneIx} {c : Candidate} (h : s.choose l = some c) : s.canIssue l c := by
  unfold State.choose at h
  split at h
  · next g hg =>
    simp only [Option.some.injEq] at h
    subst h
    have := List.find?_some hg
    simp only [State.exitReady, Bool.and_eq_true, decide_eq_true_eq] at this
    exact ⟨this.1.1.1, this.1.2⟩
  · split at h
    · next g hg =>
      simp only [Option.some.injEq] at h
      subst h
      have := List.find?_some hg
      simp only [State.entryReady, Bool.and_eq_true, decide_eq_true_eq] at this
      exact ⟨this.1.1.1, this.1.2⟩
    · split at h
      · next d hd =>
        simp only [Option.some.injEq] at h
        subst h
        have := List.find?_some hd
        simp only [State.pressedTicket, Bool.and_eq_true] at this
        exact lockFree_of_eligible this.2
      · split at h
        · next d hd =>
          simp only [Option.some.injEq] at h
          subst h
          have := List.find?_some hd
          simp only [State.dueTicket, Bool.and_eq_true] at this
          exact lockFree_of_eligible this.2
        · simp only [Option.map_eq_some_iff] at h
          obtain ⟨d, hd, rfl⟩ := h
          exact canIssue_of_bestAdvance hd


-- The fields an issue leaves as they were

@[simp] theorem time_beginFrame (s : State) (l : LaneIx) (g : TargetIx) : (s.beginFrame l g).time = s.time := by
  simp [State.beginFrame]
@[simp] theorem time_takeLockOf (s : State) (d : DutyIx) : (s.takeLockOf d).time = s.time := by
  unfold State.takeLockOf
  split <;> simp
@[simp] theorem time_issue (s : State) (l : LaneIx) (c : Candidate) : (s.issue l c).time = s.time := by
  cases c <;> simp [State.issue, State.issueHold, State.issueDuty]
@[simp] theorem inc_beginFrame (s : State) (l : LaneIx) (g : TargetIx) : (s.beginFrame l g).inc = s.inc := by
  simp [State.beginFrame]
@[simp] theorem inc_takeLockOf (s : State) (d : DutyIx) : (s.takeLockOf d).inc = s.inc := by
  unfold State.takeLockOf
  split <;> simp
@[simp] theorem inc_issue (s : State) (l : LaneIx) (c : Candidate) : (s.issue l c).inc = s.inc := by
  cases c <;> simp [State.issue, State.issueHold, State.issueDuty]
@[simp] theorem port_beginFrame (s : State) (l : LaneIx) (g : TargetIx) : (s.beginFrame l g).port = s.port := by
  simp [State.beginFrame]
@[simp] theorem port_takeLockOf (s : State) (d : DutyIx) : (s.takeLockOf d).port = s.port := by
  unfold State.takeLockOf
  split <;> simp
@[simp] theorem port_issue (s : State) (l : LaneIx) (c : Candidate) : (s.issue l c).port = s.port := by
  cases c <;> simp [State.issue, State.issueHold, State.issueDuty]
@[simp] theorem busRead_beginFrame (s : State) (l : LaneIx) (g : TargetIx) : (s.beginFrame l g).busRead = s.busRead := by
  simp [State.beginFrame]
@[simp] theorem busRead_takeLockOf (s : State) (d : DutyIx) : (s.takeLockOf d).busRead = s.busRead := by
  unfold State.takeLockOf
  split <;> simp
@[simp] theorem busRead_issue (s : State) (l : LaneIx) (c : Candidate) : (s.issue l c).busRead = s.busRead := by
  cases c <;> simp [State.issue, State.issueHold, State.issueDuty]
@[simp] theorem pending_beginFrame (s : State) (l : LaneIx) (g : TargetIx) : (s.beginFrame l g).pending = s.pending := by
  simp [State.beginFrame]
@[simp] theorem pending_takeLockOf (s : State) (d : DutyIx) : (s.takeLockOf d).pending = s.pending := by
  unfold State.takeLockOf
  split <;> simp
@[simp] theorem pending_issue (s : State) (l : LaneIx) (c : Candidate) : (s.issue l c).pending = s.pending := by
  cases c <;> simp [State.issue, State.issueHold, State.issueDuty]

theorem record_beginFrame (s : State) (l : LaneIx) (g : TargetIx) (j : LaneIx) :
    (s.beginFrame l g).record j = s.record j := by simp [State.beginFrame]
theorem duty_beginFrame (s : State) (l : LaneIx) (g : TargetIx) (j : DutyIx) :
    (s.beginFrame l g).duty j = s.duty j := by simp [State.beginFrame]
theorem target_beginFrame (s : State) (l : LaneIx) (g j : TargetIx) :
    (s.beginFrame l g).target j = s.target j := by simp [State.beginFrame]
theorem list_beginFrame (s : State) (l : LaneIx) (g : TargetIx) (j : LaneIx) :
    (s.beginFrame l g).list j = s.list j := by simp [State.beginFrame]
theorem lock_beginFrame (s : State) (l : LaneIx) (g : TargetIx) (j : LockIx) :
    (s.beginFrame l g).lock j = s.lock j := by simp [State.beginFrame]
theorem lane_beginFrame (s : State) (l : LaneIx) (g : TargetIx) (j : LaneIx) :
    (s.beginFrame l g).lane j =
      if j = l then
        { s.lane l with
          activity := .busy
          pins := if (s.lane l).stopWaiting then (s.lane l).pins else (s.lane l).framePins (s.target g).defn.address }
      else s.lane j := by simp [State.beginFrame]

theorem lock_takeLockOf (s : State) (d : DutyIx) (j : LockIx) :
    (s.takeLockOf d).lock j = if s.lockOf d = some j then some d else s.lock j := by
  unfold State.takeLockOf
  cases h : s.lockOf d with
  | none => simp
  | some k =>
    by_cases hj : j = k
    · simp [hj]
    · have : ¬k = j := fun e => hj e.symm
      simp [hj, this]
theorem duty_takeLockOf (s : State) (d j : DutyIx) : (s.takeLockOf d).duty j = s.duty j := by
  unfold State.takeLockOf
  split <;> simp
theorem target_takeLockOf (s : State) (d : DutyIx) (j : TargetIx) : (s.takeLockOf d).target j = s.target j := by
  unfold State.takeLockOf
  split <;> simp
theorem lane_takeLockOf (s : State) (d : DutyIx) (j : LaneIx) : (s.takeLockOf d).lane j = s.lane j := by
  unfold State.takeLockOf
  split <;> simp
theorem list_takeLockOf (s : State) (d : DutyIx) (j : LaneIx) : (s.takeLockOf d).list j = s.list j := by
  unfold State.takeLockOf
  split <;> simp
theorem record_takeLockOf (s : State) (d : DutyIx) (j : LaneIx) : (s.takeLockOf d).record j = s.record j := by
  unfold State.takeLockOf
  split <;> simp

-- The effect of one issue, field by field (R58)

theorem lane_issue_ne (s : State) (l : LaneIx) (c : Candidate) (j : LaneIx) (h : j ≠ l) : (s.issue l c).lane j = s.lane j := by
  cases c <;> simp [State.issue, State.issueHold, State.issueDuty, lane_beginFrame, lane_takeLockOf, h]

theorem lane_issue_self (s : State) (l : LaneIx) (c : Candidate) :
    ∃ p, (s.issue l c).lane l = { s.lane l with activity := .busy, pins := p } := by
  cases c <;>
    simp only [State.issue, State.issueHold, State.issueDuty, lane_beginFrame, lane_takeLockOf, lane_setRecord, lane_setTarget,
      lane_setDuty, lane_removeTicket, if_true] <;>
    exact ⟨_, rfl⟩

theorem record_issue_ne (s : State) (l : LaneIx) (c : Candidate) (j : LaneIx) (h : j ≠ l) :
    (s.issue l c).record j = s.record j := by
  cases c <;> simp [State.issue, State.issueHold, State.issueDuty, record_beginFrame, record_takeLockOf, h]

/-- The record of an issue (R69). -/
theorem record_issue_self (s : State) (l : LaneIx) (c : Candidate) :
    ∃ r, (s.issue l c).record l = some r ∧ r.issueEpoch = s.now ∧ r.phase = .request ∧ r.deadlinePassed = false ∧
      r.status = none ∧ r.data = [] := by
  cases c <;> simp [State.issue, State.issueHold, State.issueDuty, record_beginFrame, State.newRecord]

theorem duty_issue (s : State) (l : LaneIx) (c : Candidate) (e : DutyIx) : (s.duty e).looked ((s.issue l c).duty e) := by
  cases c with
  | exit g => left; simp [State.issue, State.issueHold, duty_beginFrame]
  | entry g => left; simp [State.issue, State.issueHold, duty_beginFrame]
  | duty d =>
    by_cases he : e = d
    · right; simp [State.issue, State.issueDuty, duty_beginFrame, duty_takeLockOf, he]
    · left; simp [State.issue, State.issueDuty, duty_beginFrame, duty_takeLockOf, he]

theorem list_issue (s : State) (l : LaneIx) (c : Candidate) (j : LaneIx) : ((s.issue l c).list j).Sublist (s.list j) := by
  cases c with
  | exit g => simp [State.issue, State.issueHold, list_beginFrame]
  | entry g => simp [State.issue, State.issueHold, list_beginFrame]
  | duty d =>
    simp only [State.issue, State.issueDuty, list_beginFrame, list_takeLockOf, list_setRecord, list_setDuty, list_removeTicket]
    split
    · exact List.filter_sublist
    · exact List.Sublist.refl _

theorem lock_issue (s : State) (l : LaneIx) (c : Candidate) (k : LockIx) :
    (s.issue l c).lock k = s.lock k ∨ (∃ d, c = .duty d ∧ s.lockOf d = some k) := by
  cases c with
  | exit g => left; simp [State.issue, State.issueHold, lock_beginFrame]
  | entry g => left; simp [State.issue, State.issueHold, lock_beginFrame]
  | duty d =>
    by_cases h : s.lockOf d = some k
    · right; exact ⟨d, rfl, h⟩
    · left
      have h' : ¬((s.removeTicket d).setDuty d { (s.removeTicket d).duty d with inFlight := true }).lockOf d = some k := by
        simpa [State.lockOf] using h
      simp only [State.issue, State.issueDuty, lock_beginFrame, lock_setRecord, lock_takeLockOf]
      rw [if_neg h']
      simp

theorem target_issue (s : State) (l : LaneIx) (c : Candidate) (h : s.canIssue l c) (g : TargetIx) :
    (s.target g).looked ((s.issue l c).target g) := by
  cases c with
  | exit t =>
    by_cases hg : g = t
    · subst hg
      right; right
      exact ⟨h.2, by simp [State.issue, State.issueHold, target_beginFrame]⟩
    · left; simp [State.issue, State.issueHold, target_beginFrame, hg]
  | entry t =>
    by_cases hg : g = t
    · subst hg
      right; left
      exact ⟨h.2, by simp [State.issue, State.issueHold, target_beginFrame]⟩
    · left; simp [State.issue, State.issueHold, target_beginFrame, hg]
  | duty d => left; simp [State.issue, State.issueDuty, target_beginFrame, target_takeLockOf]

theorem target_issue_other (s : State) (l : LaneIx) (c : Candidate) (h : s.canIssue l c) (g : TargetIx)
    (hg : (s.target g).defn.lane ≠ l) : (s.issue l c).target g = s.target g := by
  cases c with
  | exit t =>
    have : g ≠ t := fun e => hg (e ▸ h.1)
    simp [State.issue, State.issueHold, target_beginFrame, this]
  | entry t =>
    have : g ≠ t := fun e => hg (e ▸ h.1)
    simp [State.issue, State.issueHold, target_beginFrame, this]
  | duty d => simp [State.issue, State.issueDuty, target_beginFrame, target_takeLockOf]

-- The looks of one event

theorem Duty.looked_trans {a b c : Duty} (h1 : a.looked b) (h2 : b.looked c) : a.looked c := by
  rcases h1 with h1 | h1 <;> rcases h2 with h2 | h2 <;> subst h1 h2
  · exact .inl rfl
  · exact .inr rfl
  · exact .inr rfl
  · exact .inr rfl

/-- `z` is `x` with issues at the lanes of `done` only. -/
structure Stage (x : State) (done : List LaneIx) (z : State) : Prop where
  duties : ∀ d, (x.duty d).looked (z.duty d)
  targets : ∀ g, (x.target g).looked (z.target g)
  targetsKept : ∀ g, (x.target g).defn.lane ∉ done → z.target g = x.target g
  lanes : ∀ l, (x.lane l).looked (z.lane l)
  lanesKept : ∀ l, l ∉ done → z.lane l = x.lane l
  lists : ∀ l, (z.list l).Sublist (x.list l)
  locks : ∀ k, lockLooked (x.lock k) (z.lock k)
  records : ∀ l, recordLooked (x.lane l) x.now (x.record l) (z.record l)
  recordsKept : ∀ l, l ∉ done → z.record l = x.record l
  time : z.time = x.time
  inc : z.inc = x.inc
  port : z.port = x.port
  busRead : z.busRead = x.busRead
  pending : z.pending = x.pending

theorem Stage.refl (x : State) : Stage x [] x :=
  ⟨fun _ => .inl rfl, fun _ => .inl rfl, fun _ _ => rfl, fun _ => .inl rfl, fun _ _ => rfl, fun _ => .refl _, fun _ => .inl rfl,
    fun _ => .inl rfl, fun _ _ => rfl, rfl, rfl, rfl, rfl, rfl⟩

theorem Target.looked_lane {a b : Target} (h : a.looked b) : b.defn = a.defn := by
  rcases h with h | ⟨_, h⟩ | ⟨_, h⟩ <;> subst h <;> rfl

theorem Duty.looked_defn {a b : Duty} (h : a.looked b) : b.defn = a.defn := by
  rcases h with h | h <;> subst h <;> rfl

theorem Stage.lockOf {x z : State} {done : List LaneIx} (h : Stage x done z) (d : DutyIx) : z.lockOf d = x.lockOf d := by
  simp [State.lockOf, Duty.looked_defn (h.duties d)]

/-- A candidate that may be issued at `l`, as the state `x` before the looks shows it. -/
theorem Stage.canIssue {x z : State} {done : List LaneIx} (h : Stage x done z) {l : LaneIx} (hl : l ∉ done) {c : Candidate}
    (hc : z.canIssue l c) : x.canIssue l c := by
  cases c with
  | exit g =>
    obtain ⟨h1, h2⟩ := hc
    have e := Target.looked_lane (h.targets g)
    have hx : (x.target g).defn.lane = l := by rw [← e]; exact h1
    have k := h.targetsKept g (by rw [hx]; exact hl)
    exact ⟨hx, by rw [← k]; exact h2⟩
  | entry g =>
    obtain ⟨h1, h2⟩ := hc
    have e := Target.looked_lane (h.targets g)
    have hx : (x.target g).defn.lane = l := by rw [← e]; exact h1
    have k := h.targetsKept g (by rw [hx]; exact hl)
    exact ⟨hx, by rw [← k]; exact h2⟩
  | duty d =>
    simp only [State.canIssue, State.lockFree] at hc ⊢
    rw [h.lockOf d] at hc
    split
    · rfl
    · next k hk =>
      rw [hk] at hc
      simp only [decide_eq_true_eq] at hc ⊢
      rcases h.locks k with e | e
      · rw [← e]; exact hc
      · exact e

theorem Stage.issue {x z : State} {done : List LaneIx} (h : Stage x done z) {l : LaneIx} (hl : l ∉ done) {c : Candidate}
    (hc : x.canIssue l c) (hm : x.mayIssue l = true) : Stage x (l :: done) (z.issue l c) := by
  have hmay : (x.lane l).gate = .opened ∧ (x.lane l).activity = .idle := by
    simpa [State.mayIssue] using hm
  have hz : z.canIssue l c ∨ ∃ d, c = .duty d := by
    cases c with
    | exit g =>
      left
      have k := h.targetsKept g (by rw [hc.1]; exact hl)
      exact ⟨by rw [k]; exact hc.1, by rw [k]; exact hc.2⟩
    | entry g =>
      left
      have k := h.targetsKept g (by rw [hc.1]; exact hl)
      exact ⟨by rw [k]; exact hc.1, by rw [k]; exact hc.2⟩
    | duty d => exact .inr ⟨d, rfl⟩
  have htarget : ∀ g, (x.target g).looked ((z.issue l c).target g) := by
    intro g
    rcases hz with hz | ⟨d, rfl⟩
    · by_cases hg : (x.target g).defn.lane = l
      · have k := h.targetsKept g (by rw [hg]; exact hl)
        rw [← k]
        exact target_issue z l c hz g
      · rw [target_issue_other z l c hz g (by rw [Target.looked_lane (h.targets g)]; exact hg)]
        exact h.targets g
    · simpa [State.issue, State.issueDuty, target_beginFrame, target_takeLockOf] using h.targets g
  constructor
  · intro d; exact Duty.looked_trans (h.duties d) (duty_issue z l c d)
  · exact htarget
  · intro g hg
    simp only [List.mem_cons, not_or] at hg
    have k := h.targetsKept g hg.2
    rcases hz with hz | ⟨d, rfl⟩
    · rw [target_issue_other z l c hz g (by rw [k]; exact hg.1), k]
    · simpa [State.issue, State.issueDuty, target_beginFrame, target_takeLockOf] using k
  · intro j
    by_cases hj : j = l
    · subst hj
      obtain ⟨p, hp⟩ := lane_issue_self z j c
      right
      refine ⟨hmay.1, hmay.2, ?_⟩
      rw [hp, h.lanesKept j hl]
    · rw [lane_issue_ne z l c j hj]; exact h.lanes j
  · intro j hj
    simp only [List.mem_cons, not_or] at hj
    rw [lane_issue_ne z l c j hj.1]; exact h.lanesKept j hj.2
  · intro j; exact (list_issue z l c j).trans (h.lists j)
  · intro k
    rcases lock_issue z l c k with e | ⟨d, rfl, hd⟩
    · rw [lockLooked, e]; exact h.locks k
    · right
      rw [h.lockOf d] at hd
      simp only [State.canIssue, State.lockFree, hd, decide_eq_true_eq] at hc
      exact hc
  · intro j
    by_cases hj : j = l
    · subst hj
      obtain ⟨r, h1, h2, h3⟩ := record_issue_self z j c
      right
      refine ⟨hmay.1, hmay.2, r, h1, ?_, h3⟩
      rw [h2, State.now, h.time]; rfl
    · rw [record_issue_ne z l c j hj]; exact h.records j
  · intro j hj
    simp only [List.mem_cons, not_or] at hj
    rw [record_issue_ne z l c j hj.1]; exact h.recordsKept j hj.2
  · rw [time_issue]; exact h.time
  · rw [inc_issue]; exact h.inc
  · rw [port_issue]; exact h.port
  · rw [busRead_issue]; exact h.busRead
  · rw [pending_issue]; exact h.pending

theorem Stage.foldIssue {x : State} (ps : List (LaneIx × Candidate)) :
    ∀ (done : List LaneIx) (z : State), Stage x done z → (ps.map (·.1)).Nodup → (∀ p ∈ ps, p.1 ∉ done) →
      (∀ p ∈ ps, x.canIssue p.1 p.2) → (∀ p ∈ ps, x.mayIssue p.1 = true) →
      ∃ done', Stage x done' (ps.foldl (fun acc p => acc.issue p.1 p.2) z) ∧
        ∀ l, l ∈ done' → l ∈ done ∨ l ∈ ps.map (·.1) := by
  induction ps with
  | nil => intro done z h _ _ _ _; exact ⟨done, h, fun l hl => .inl hl⟩
  | cons p rest ih =>
    intro done z h hn hd hc hm
    simp only [List.map_cons, List.nodup_cons] at hn
    have h1 := h.issue (hd p (by simp)) (hc p (by simp)) (hm p (by simp))
    obtain ⟨done', h2, h3⟩ := ih (p.1 :: done) _ h1 hn.2
      (fun q hq => by
        simp only [List.mem_cons, not_or]
        exact ⟨fun e => hn.1 (e ▸ List.mem_map_of_mem hq), hd q (by simp [hq])⟩)
      (fun q hq => hc q (by simp [hq])) (fun q hq => hm q (by simp [hq]))
    refine ⟨done', h2, fun l hl => ?_⟩
    rcases h3 l hl with e | e
    · simp only [List.mem_cons] at e
      rcases e with e | e
      · right; simp [e]
      · exact .inl e
    · right; simp only [List.map_cons, List.mem_cons]; exact .inr e

/-- The claims of a round stand at lanes of the round, each once. -/
theorem claims_lanes (s : State) (ls : List LaneIx) (h : ls.Nodup) :
    ((ls.filterMap fun l => (s.choose l).map fun c => (l, c)).map (·.1)).Nodup ∧
      ∀ p ∈ (ls.filterMap fun l => (s.choose l).map fun c => (l, c)), p.1 ∈ ls ∧ s.choose p.1 = some p.2 := by
  have hm : ∀ p ∈ (ls.filterMap fun l => (s.choose l).map fun c => (l, c)), p.1 ∈ ls ∧ s.choose p.1 = some p.2 := by
    intro p hp
    simp only [List.mem_filterMap, Option.map_eq_some_iff] at hp
    obtain ⟨l, hl, c, hc, rfl⟩ := hp
    exact ⟨hl, hc⟩
  refine ⟨?_, hm⟩
  have hs : ((ls.filterMap fun l => (s.choose l).map fun c => (l, c)).map (·.1)).Sublist ls := by
    clear hm h
    induction ls with
    | nil => simp
    | cons l rest ih =>
      simp only [List.filterMap_cons]
      cases hc : s.choose l with
      | none => simpa using ih.cons l
      | some c => simpa using ih.cons_cons l
  exact hs.nodup h

theorem Stage.rounds {x : State} (n : Nat) :
    ∀ (ls done : List LaneIx) (z : State), Stage x done z → ls.Nodup → (∀ l ∈ ls, l ∉ done) → (∀ l ∈ ls, x.mayIssue l = true) →
      ∃ done', Stage x done' (lookRounds n ls z) := by
  induction n with
  | zero => intro ls done z h _ _ _; exact ⟨done, h⟩
  | succ n ih =>
    intro ls done z h hn hd hm
    obtain ⟨hcn, hcm⟩ := claims_lanes z ls hn
    simp only [lookRounds]
    generalize hcl : (ls.filterMap fun l => (z.choose l).map fun c => (l, c)) = claims at hcn hcm
    have hsub : ∀ q : LaneIx × Candidate → Bool, ((claims.filter q).map (·.1)).Sublist (claims.map (·.1)) :=
      fun q => (List.filter_sublist).map _
    have hg := Stage.foldIssue (claims.filter fun p => !z.claimRefused claims p.1 p.2) done z h ((hsub _).nodup hcn)
      (fun p hp => hd _ (hcm p (List.mem_of_mem_filter hp)).1)
      (fun p hp => by
        have := hcm p (List.mem_of_mem_filter hp)
        exact h.canIssue (hd _ this.1) (canIssue_of_choose this.2))
      (fun p hp => hm _ (hcm p (List.mem_of_mem_filter hp)).1)
    obtain ⟨done', h1, h2⟩ := hg
    refine ih _ done' _ h1 ((hsub _).nodup hcn) ?_ ?_
    · intro l hl hbad
      simp only [List.mem_map, List.mem_filter] at hl
      obtain ⟨p, ⟨hp, href⟩, rfl⟩ := hl
      rcases h2 _ hbad with e | e
      · exact hd _ (hcm p hp).1 e
      · simp only [List.mem_map, List.mem_filter] at e
        obtain ⟨q, ⟨hq, hqr⟩, hqp⟩ := e
        have : q = p := by
          have e1 := (hcm q hq).2
          have e2 := (hcm p hp).2
          rw [hqp, e2] at e1
          exact Prod.ext hqp (Option.some.inj e1).symm
        subst this
        simp [href] at hqr
    · intro l hl
      simp only [List.mem_map, List.mem_filter] at hl
      obtain ⟨p, ⟨hp, _⟩, rfl⟩ := hl
      exact hm _ (hcm p hp).1

/-- Nothing but issues comes of the looks of one event, and nothing at all where no lane may issue (R53 to R58). -/
theorem looks_looked (x : State) (ls : List LaneIx) (h : ls.Nodup) : Looked x (x.looks ls) := by
  obtain ⟨done, hs⟩ := Stage.rounds 4 (ls.filter x.mayIssue) [] x (Stage.refl x) (h.filter _) (by simp)
    (fun l hl => (List.mem_filter.mp hl).2)
  refine ⟨hs.duties, hs.targets, hs.lanes, hs.lists, hs.locks, hs.records, hs.time, hs.inc, hs.port, hs.busRead, hs.pending, ?_⟩
  intro hno
  have : ls.filter x.mayIssue = [] := by
    rw [List.filter_eq_nil_iff]
    intro l _
    simp [hno l]
  simp [State.looks, this, lookRounds]

theorem allLanes_nodup : allLanes.Nodup := List.nodup_finRange 4

/-- The looks that follow an event (R53). -/
theorem looksAfter_looked (x before : State) (ls : List LaneIx) (h : ls.Nodup) : Looked x (x.looksAfter before ls) := by
  unfold State.looksAfter
  split
  · exact looks_looked x _ allLanes_nodup
  · exact looks_looked x _ h

/-- A lane that may not issue is not looked at. -/
theorem looks_of_not_mayIssue (x : State) (ls : List LaneIx) (h : ∀ l ∈ ls, x.mayIssue l = false) : x.looks ls = x := by
  have : ls.filter x.mayIssue = [] := by
    rw [List.filter_eq_nil_iff]
    intro l hl
    simp [h l hl]
  simp [State.looks, this, lookRounds]

/-- Looks that find no candidate change nothing. -/
theorem looks_of_no_candidate (x : State) (ls : List LaneIx) (h : ∀ l ∈ ls, x.mayIssue l = true → x.choose l = none) :
    x.looks ls = x := by
  have hnil : (ls.filter x.mayIssue).filterMap (fun l => (x.choose l).map fun c => (l, c)) = [] := by
    rw [List.filterMap_eq_nil_iff]
    intro l hl
    have := List.mem_filter.mp hl
    simp [h l this.1 this.2]
  simp [State.looks, lookRounds, hnil]

/-- Rounds without a lane change nothing. -/
theorem lookRounds_nil (n : Nat) (z : State) : lookRounds n [] z = z := by
  induction n generalizing z with
  | zero => rfl
  | succ n ih => simp [lookRounds, ih]

/-- A look at one lane issues its first candidate (R54 to R58). -/
theorem looks_single (x : State) (l : LaneIx) (h : x.mayIssue l = true) (c : Candidate) (hc : x.choose l = some c) :
    x.looks [l] = x.issue l c := by
  have hr : x.claimRefused [(l, c)] l c = false := by
    unfold State.claimRefused
    split <;> simp
  have hf : [l].filter x.mayIssue = [l] := by simp [h]
  rw [State.looks, hf, lookRounds]
  simp [hc, hr, lookRounds_nil]

-- What the rounds come to: each leaves fewer lanes, and none is given a candidate by the issues of others

/-- A round refuses lanes of the round only, and of a round with a lane it does not refuse the lowest-numbered one that claims
(R61), so that each round leaves fewer lanes to look. -/
theorem refused_card_lt (s : State) (ls : List LaneIx) (n : Nat) (h : ls.toFinset.card ≤ n + 1)
    (claims : List (LaneIx × Candidate)) (hc : claims = ls.filterMap fun l => (s.choose l).map fun c => (l, c)) :
    ((claims.filter fun p => s.claimRefused claims p.1 p.2).map (·.1)).toFinset.card ≤ n := by
  have hm : ∀ p ∈ claims, p.1 ∈ ls ∧ s.choose p.1 = some p.2 := by
    intro p hp
    simp only [hc, List.mem_filterMap, Option.map_eq_some_iff] at hp
    obtain ⟨l, hl, c, hc, rfl⟩ := hp
    exact ⟨hl, hc⟩
  rcases claims.eq_nil_or_concat with hnil | ⟨_, _, hne⟩
  · simp [hnil]
  obtain ⟨p, hp, hmin⟩ := claims.toFinset.exists_min_image (·.1) (by rw [hne]; simp)
  simp only [List.mem_toFinset] at hp hmin
  have hpr : s.claimRefused claims p.1 p.2 = false := by
    unfold State.claimRefused
    split
    · rfl
    · rw [List.any_eq_false]
      intro q hq
      have hle : ¬q.1 < p.1 := not_lt.mpr (hmin q hq)
      simp [hle]
  have hsub : ((claims.filter fun p => s.claimRefused claims p.1 p.2).map (·.1)).toFinset ⊆ ls.toFinset.erase p.1 := by
    intro l hl
    simp only [List.mem_toFinset, List.mem_map, List.mem_filter] at hl
    obtain ⟨q, ⟨hq, hqr⟩, rfl⟩ := hl
    rw [Finset.mem_erase]
    refine ⟨fun e => ?_, List.mem_toFinset.mpr (hm q hq).1⟩
    have e2 := (hm q hq).2
    rw [e, (hm p hp).2] at e2
    rw [e, ← Option.some.inj e2, hpr] at hqr
    exact Bool.noConfusion hqr
  have := Finset.card_le_card hsub
  rw [Finset.card_erase_of_mem (List.mem_toFinset.mpr (hm p hp).1)] at this
  omega

/-- As many rounds as lanes are enough: one more changes nothing. -/
theorem lookRounds_stable (n : Nat) : ∀ (ls : List LaneIx) (z : State), ls.toFinset.card ≤ n →
    lookRounds (n + 1) ls z = lookRounds n ls z := by
  induction n with
  | zero =>
    intro ls z h
    have : ls = [] := by simpa using h
    rw [this, lookRounds_nil, lookRounds_nil]
  | succ n ih =>
    intro ls z h
    rw [lookRounds]
    conv_rhs => rw [lookRounds]
    exact ih _ _ (refused_card_lt z ls n h _ rfl)

/-- A look at the lane finds no candidate (R54 to R56). -/
theorem choose_eq_none_iff (s : State) (l : LaneIx) :
    s.choose l = none ↔
      (∀ g, s.exitReady l g = false) ∧ (∀ g, s.entryReady l g = false) ∧ (∀ d ∈ s.list l, s.eligible d = false) ∧
        ∀ d, s.advanceCandidate l d = false := by
  have key : ∀ (ds : List DutyIx) (b : Option DutyIx),
      ds.foldl (fun best d =>
        if s.advanceCandidate l d then
          match best with
          | none => some d
          | some b => if (s.duty b).owed < (s.duty d).owed then some d else some b
        else best) b = none ↔ b = none ∧ ∀ d ∈ ds, s.advanceCandidate l d = false := by
    intro ds
    induction ds with
    | nil => simp
    | cons d rest ih =>
      intro b
      rw [List.foldl_cons, ih]
      cases h : s.advanceCandidate l d
      · simp [h]
      · cases b
        · simp [h]
        · simp only [if_true, List.mem_cons, forall_eq_or_imp, h]
          split <;> simp
  have hbest : s.bestAdvance l = none ↔ ∀ d, s.advanceCandidate l d = false :=
    (key allDuties none).trans (by simp [allDuties])
  have hexit : allTargets.find? (s.exitReady l) = none ↔ ∀ g, s.exitReady l g = false := by simp [allTargets]
  have hentry : allTargets.find? (s.entryReady l) = none ↔ ∀ g, s.entryReady l g = false := by simp [allTargets]
  have hlist : ((s.list l).find? s.pressedTicket = none ∧ (s.list l).find? s.dueTicket = none) ↔
      ∀ d ∈ s.list l, s.eligible d = false := by
    rw [List.find?_eq_none, List.find?_eq_none]
    constructor
    · intro h d hd
      have h1 := h.1 d hd
      have h2 := h.2 d hd
      simp only [State.pressedTicket, State.dueTicket] at h1 h2
      cases hp : (s.duty d).atLimit <;> simp_all
    · intro h
      exact ⟨fun d hd => by simp [State.pressedTicket, h d hd], fun d hd => by simp [State.dueTicket, h d hd]⟩
  rw [← hexit, ← hentry, ← hlist, ← hbest]
  unfold State.choose
  cases allTargets.find? (s.exitReady l) <;> cases allTargets.find? (s.entryReady l) <;>
    cases (s.list l).find? s.pressedTicket <;> cases (s.list l).find? s.dueTicket <;> simp

/-- What a look reads of a target, an issue leaves as it was, but for the hold transaction that it starts. -/
theorem target_issue_cases (s : State) (l : LaneIx) (c : Candidate) (g : TargetIx) :
    (s.issue l c).target g = s.target g ∨ (s.issue l c).target g = { s.target g with holdTransaction := .entryInFlight } ∨
      (s.issue l c).target g = { s.target g with holdTransaction := .exitInFlight } := by
  cases c with
  | exit t =>
    by_cases hg : g = t
    · subst hg; right; right; simp [State.issue, State.issueHold, target_beginFrame]
    · left; simp [State.issue, State.issueHold, target_beginFrame, hg]
  | entry t =>
    by_cases hg : g = t
    · subst hg; right; left; simp [State.issue, State.issueHold, target_beginFrame]
    · left; simp [State.issue, State.issueHold, target_beginFrame, hg]
  | duty d => left; simp [State.issue, State.issueDuty, target_beginFrame, target_takeLockOf]

/-- An issue releases no lock. -/
theorem lock_eq_none_of_issue {s : State} {l : LaneIx} {c : Candidate} {k : LockIx} (h : (s.issue l c).lock k = none) :
    s.lock k = none := by
  rcases lock_issue s l c k with e | ⟨d, rfl, hd⟩
  · rw [← e]; exact h
  · exfalso
    have hd' : ((s.removeTicket d).setDuty d { (s.removeTicket d).duty d with inFlight := true }).lockOf d = some k := by
      simpa [State.lockOf] using hd
    simp only [State.issue, State.issueDuty, lock_beginFrame, lock_setRecord, lock_takeLockOf] at h
    rw [if_pos hd'] at h
    exact Option.some_ne_none _ h

/-- An issue makes no duty eligible (R49 to R51). -/
theorem eligible_of_issue {s : State} {l : LaneIx} {c : Candidate} {d : DutyIx} (h : (s.issue l c).eligible d = true) :
    s.eligible d = true := by
  rw [eligible_iff] at h ⊢
  unfold State.eligibleByFields at h ⊢
  have hb : ((s.issue l c).duty d).backoffUntil = (s.duty d).backoffUntil := by
    rcases duty_issue s l c d with e | e <;> rw [e]
  have hs : ((s.issue l c).target (s.duty d).defn.target).holdState = (s.target (s.duty d).defn.target).holdState := by
    rcases target_issue_cases s l c (s.duty d).defn.target with e | e | e <;> rw [e]
  simp only [State.targetOf, Duty.looked_defn (duty_issue s l c d), hs, hb, State.now, time_issue] at h ⊢
  exact ⟨h.1, h.2.1, fun k hk => lock_eq_none_of_issue (h.2.2 k hk)⟩

/-- An issue gives no lane a candidate that it had not (R54 to R56). -/
theorem choose_issue_eq_none {s : State} {j : LaneIx} (l : LaneIx) (c : Candidate) (h : s.choose j = none) :
    (s.issue l c).choose j = none := by
  rw [choose_eq_none_iff] at h ⊢
  obtain ⟨hexit, hentry, hlist, hadvance⟩ := h
  simp only [← Bool.not_eq_true] at hexit hentry hlist hadvance ⊢
  refine ⟨fun g hx => hexit g ?_, fun g hx => hentry g ?_, fun d hd hx => hlist d ((list_issue s l c j).mem hd)
    (eligible_of_issue hx), fun d hx => hadvance d ?_⟩
  · unfold State.exitReady at hx ⊢
    rcases target_issue_cases s l c g with e | e | e <;> simp_all [State.now]
  · rw [entryReady_iff] at hx ⊢
    unfold State.entryReadyByFields at hx ⊢
    rcases target_issue_cases s l c g with e | e | e
    · rw [e] at hx
      refine ⟨hx.1, hx.2.1, hx.2.2.1, fun d => ?_⟩
      have := hx.2.2.2 d
      rcases duty_issue s l c d with e' | e' <;> simp_all
    · rw [e] at hx; simp at hx
    · rw [e] at hx; simp at hx
  · rcases duty_issue s l c d with e | e
    · unfold State.advanceCandidate State.laneOf State.targetOf at hx ⊢
      have hd : ((s.issue l c).target (s.duty d).defn.target).defn = (s.target (s.duty d).defn.target).defn := by
        rcases target_issue_cases s l c (s.duty d).defn.target with e' | e' | e' <;> rw [e']
      simp only [e, hd, Bool.and_eq_true] at hx ⊢
      exact ⟨hx.1, eligible_of_issue hx.2⟩
    · simp [State.advanceCandidate, e] at hx

/-- An issue makes its own lane BUSY, and leaves the others as they were (R53, R58). -/
theorem mayIssue_issue (s : State) (l j : LaneIx) (c : Candidate) :
    (s.issue l c).mayIssue j = (s.mayIssue j && decide (j ≠ l)) := by
  by_cases h : j = l
  · subst h
    obtain ⟨p, hp⟩ := lane_issue_self s j c
    simp [State.mayIssue, hp]
  · simp [State.mayIssue, lane_issue_ne s l c j h, h]

@[simp] theorem time_looks (x : State) (ls : List LaneIx) : (x.looks ls).time = x.time := by
  have : ∀ n ls (z : State), (lookRounds n ls z).time = z.time := by
    intro n
    induction n with
    | zero => intro ls z; rfl
    | succ n ih =>
      intro ls z
      simp only [lookRounds]
      rw [ih]
      generalize (List.filter _ _) = ps
      induction ps generalizing z with
      | nil => rfl
      | cons p rest ih2 => rw [List.foldl_cons, ih2, time_issue]
  exact this 4 _ x
@[simp] theorem time_looksAfter (x before : State) (ls : List LaneIx) : (x.looksAfter before ls).time = x.time := by
  simp [State.looksAfter]
@[simp] theorem inc_looks (x : State) (ls : List LaneIx) : (x.looks ls).inc = x.inc := by
  have : ∀ n ls (z : State), (lookRounds n ls z).inc = z.inc := by
    intro n
    induction n with
    | zero => intro ls z; rfl
    | succ n ih =>
      intro ls z
      simp only [lookRounds]
      rw [ih]
      generalize (List.filter _ _) = ps
      induction ps generalizing z with
      | nil => rfl
      | cons p rest ih2 => rw [List.foldl_cons, ih2, inc_issue]
  exact this 4 _ x
@[simp] theorem inc_looksAfter (x before : State) (ls : List LaneIx) : (x.looksAfter before ls).inc = x.inc := by
  simp [State.looksAfter]
@[simp] theorem port_looks (x : State) (ls : List LaneIx) : (x.looks ls).port = x.port := by
  have : ∀ n ls (z : State), (lookRounds n ls z).port = z.port := by
    intro n
    induction n with
    | zero => intro ls z; rfl
    | succ n ih =>
      intro ls z
      simp only [lookRounds]
      rw [ih]
      generalize (List.filter _ _) = ps
      induction ps generalizing z with
      | nil => rfl
      | cons p rest ih2 => rw [List.foldl_cons, ih2, port_issue]
  exact this 4 _ x
@[simp] theorem port_looksAfter (x before : State) (ls : List LaneIx) : (x.looksAfter before ls).port = x.port := by
  simp [State.looksAfter]
@[simp] theorem busRead_looks (x : State) (ls : List LaneIx) : (x.looks ls).busRead = x.busRead := by
  have : ∀ n ls (z : State), (lookRounds n ls z).busRead = z.busRead := by
    intro n
    induction n with
    | zero => intro ls z; rfl
    | succ n ih =>
      intro ls z
      simp only [lookRounds]
      rw [ih]
      generalize (List.filter _ _) = ps
      induction ps generalizing z with
      | nil => rfl
      | cons p rest ih2 => rw [List.foldl_cons, ih2, busRead_issue]
  exact this 4 _ x
@[simp] theorem busRead_looksAfter (x before : State) (ls : List LaneIx) : (x.looksAfter before ls).busRead = x.busRead := by
  simp [State.looksAfter]
@[simp] theorem pending_looks (x : State) (ls : List LaneIx) : (x.looks ls).pending = x.pending := by
  have : ∀ n ls (z : State), (lookRounds n ls z).pending = z.pending := by
    intro n
    induction n with
    | zero => intro ls z; rfl
    | succ n ih =>
      intro ls z
      simp only [lookRounds]
      rw [ih]
      generalize (List.filter _ _) = ps
      induction ps generalizing z with
      | nil => rfl
      | cons p rest ih2 => rw [List.foldl_cons, ih2, pending_issue]
  exact this 4 _ x
@[simp] theorem pending_looksAfter (x before : State) (ls : List LaneIx) : (x.looksAfter before ls).pending = x.pending := by
  simp [State.looksAfter]

-- Which looks follow an event (R53)

/-- An event that leaves every lock as it was releases none. -/
theorem lockReleased_of_lock_eq {a b : State} (h : ∀ k, b.lock k = a.lock k) : lockReleased a b = false := by
  unfold lockReleased
  rw [List.any_eq_false]
  intro k _
  rw [h k]
  cases a.lock k <;> simp

/-- An event that releases no lock prompts looks at its own lanes only. -/
theorem looksAfter_of_lock_eq {a b : State} (ls : List LaneIx) (h : ∀ k, b.lock k = a.lock k) :
    b.looksAfter a ls = b.looks ls := by
  simp [State.looksAfter, lockReleased_of_lock_eq h]

/-- An event that prompts a look at no lane, and releases no lock, is followed by none. -/
theorem looks_nil (x : State) : x.looks [] = x :=
  looks_of_not_mayIssue x [] (by simp)

/-- The result of a command is recorded after its looks: recording it on both sides of them keeps what they may change. -/
theorem Looked.recordResult {x y : State} (h : Looked x y) (r : CmdResult) : Looked (x.recordResult r) (y.recordResult r) := by
  obtain ⟨h1, h2, h3, h4, h5, h6, h7, h8, h9, h10, h11, h12⟩ := h
  refine ⟨by simpa using h1, by simpa using h2, by simpa using h3, by simpa using h4, by simpa using h5, by simpa using h6,
    by simpa using h7, ?_, ?_, by simpa using h10, by simpa using h11, ?_⟩
  · simp [State.recordResult, h8]
  · simp [State.recordResult, h9]
  · intro hm
    have hm' : ∀ l, x.mayIssue l = false := fun l => hm l
    rw [h12 hm']

end Sys2Proof.Machine
end

