-- ==== Sys2Proof/Laws/Outcomes.lean ====
section
/-! SUPPORT. What taking an outcome leaves as it was, one lemma a field, and the comparison under the Mask (chapters 1, 3 to 5). -/

set_option Elab.async false

namespace Sys2Proof.Machine

-- creditDuty

@[simp] theorem target_creditDuty (s : State) (r : InFlight) (d : DutyIx) (j : TargetIx) : (s.creditDuty r d).target j = s.target j := by
  simp [State.creditDuty]
@[simp] theorem lane_creditDuty (s : State) (r : InFlight) (d : DutyIx) (j : LaneIx) : (s.creditDuty r d).lane j = s.lane j := by
  simp [State.creditDuty]
@[simp] theorem lock_creditDuty (s : State) (r : InFlight) (d : DutyIx) (j : LockIx) : (s.creditDuty r d).lock j = s.lock j := by
  simp [State.creditDuty]
@[simp] theorem record_creditDuty (s : State) (r : InFlight) (d : DutyIx) (j : LaneIx) : (s.creditDuty r d).record j = s.record j := by
  simp [State.creditDuty]
@[simp] theorem time_creditDuty (s : State) (r : InFlight) (d : DutyIx) : (s.creditDuty r d).time = s.time := by
  simp [State.creditDuty]
@[simp] theorem inc_creditDuty (s : State) (r : InFlight) (d : DutyIx) : (s.creditDuty r d).inc = s.inc := by
  simp [State.creditDuty]
@[simp] theorem port_creditDuty (s : State) (r : InFlight) (d : DutyIx) : (s.creditDuty r d).port = s.port := by
  simp [State.creditDuty]
@[simp] theorem busRead_creditDuty (s : State) (r : InFlight) (d : DutyIx) : (s.creditDuty r d).busRead = s.busRead := by
  simp [State.creditDuty]
@[simp] theorem pending_creditDuty (s : State) (r : InFlight) (d : DutyIx) : (s.creditDuty r d).pending = s.pending := by
  simp [State.creditDuty]
@[simp] theorem now_creditDuty (s : State) (r : InFlight) (d : DutyIx) : (s.creditDuty r d).now = s.now := by
  simp [State.now]

-- deviateDuty

@[simp] theorem target_deviateDuty (s : State) (l : LaneIx) (r : InFlight) (d : DutyIx) (j : TargetIx) : (s.deviateDuty l r d).target j = s.target j := by
  unfold State.deviateDuty; try dsimp only
  (repeat' split) <;> simp
@[simp] theorem lane_deviateDuty (s : State) (l : LaneIx) (r : InFlight) (d : DutyIx) (j : LaneIx) : (s.deviateDuty l r d).lane j = s.lane j := by
  unfold State.deviateDuty; try dsimp only
  (repeat' split) <;> simp
@[simp] theorem lock_deviateDuty (s : State) (l : LaneIx) (r : InFlight) (d : DutyIx) (j : LockIx) : (s.deviateDuty l r d).lock j = s.lock j := by
  unfold State.deviateDuty; try dsimp only
  (repeat' split) <;> simp
@[simp] theorem record_deviateDuty (s : State) (l : LaneIx) (r : InFlight) (d : DutyIx) (j : LaneIx) : (s.deviateDuty l r d).record j = s.record j := by
  unfold State.deviateDuty; try dsimp only
  (repeat' split) <;> simp
@[simp] theorem time_deviateDuty (s : State) (l : LaneIx) (r : InFlight) (d : DutyIx) : (s.deviateDuty l r d).time = s.time := by
  unfold State.deviateDuty; try dsimp only
  (repeat' split) <;> simp
@[simp] theorem port_deviateDuty (s : State) (l : LaneIx) (r : InFlight) (d : DutyIx) : (s.deviateDuty l r d).port = s.port := by
  unfold State.deviateDuty; try dsimp only
  (repeat' split) <;> simp
@[simp] theorem busRead_deviateDuty (s : State) (l : LaneIx) (r : InFlight) (d : DutyIx) : (s.deviateDuty l r d).busRead = s.busRead := by
  unfold State.deviateDuty; try dsimp only
  (repeat' split) <;> simp
@[simp] theorem pending_deviateDuty (s : State) (l : LaneIx) (r : InFlight) (d : DutyIx) : (s.deviateDuty l r d).pending = s.pending := by
  unfold State.deviateDuty; try dsimp only
  (repeat' split) <;> simp
@[simp] theorem now_deviateDuty (s : State) (l : LaneIx) (r : InFlight) (d : DutyIx) : (s.deviateDuty l r d).now = s.now := by
  simp [State.now]

-- failDuty

@[simp] theorem target_failDuty (s : State) (l : LaneIx) (r : InFlight) (d : DutyIx) (why : Reason) (j : TargetIx) : (s.failDuty l r d why).target j = s.target j := by
  unfold State.failDuty; try dsimp only
  (repeat' split) <;> simp
@[simp] theorem lane_failDuty (s : State) (l : LaneIx) (r : InFlight) (d : DutyIx) (why : Reason) (j : LaneIx) : (s.failDuty l r d why).lane j = s.lane j := by
  unfold State.failDuty; try dsimp only
  (repeat' split) <;> simp
@[simp] theorem lock_failDuty (s : State) (l : LaneIx) (r : InFlight) (d : DutyIx) (why : Reason) (j : LockIx) : (s.failDuty l r d why).lock j = s.lock j := by
  unfold State.failDuty; try dsimp only
  (repeat' split) <;> simp
@[simp] theorem record_failDuty (s : State) (l : LaneIx) (r : InFlight) (d : DutyIx) (why : Reason) (j : LaneIx) : (s.failDuty l r d why).record j = s.record j := by
  unfold State.failDuty; try dsimp only
  (repeat' split) <;> simp
@[simp] theorem time_failDuty (s : State) (l : LaneIx) (r : InFlight) (d : DutyIx) (why : Reason) : (s.failDuty l r d why).time = s.time := by
  unfold State.failDuty; try dsimp only
  (repeat' split) <;> simp
@[simp] theorem port_failDuty (s : State) (l : LaneIx) (r : InFlight) (d : DutyIx) (why : Reason) : (s.failDuty l r d why).port = s.port := by
  unfold State.failDuty; try dsimp only
  (repeat' split) <;> simp
@[simp] theorem busRead_failDuty (s : State) (l : LaneIx) (r : InFlight) (d : DutyIx) (why : Reason) : (s.failDuty l r d why).busRead = s.busRead := by
  unfold State.failDuty; try dsimp only
  (repeat' split) <;> simp
@[simp] theorem pending_failDuty (s : State) (l : LaneIx) (r : InFlight) (d : DutyIx) (why : Reason) : (s.failDuty l r d why).pending = s.pending := by
  unfold State.failDuty; try dsimp only
  (repeat' split) <;> simp
@[simp] theorem now_failDuty (s : State) (l : LaneIx) (r : InFlight) (d : DutyIx) (why : Reason) : (s.failDuty l r d why).now = s.now := by
  simp [State.now]

-- busyDuty

@[simp] theorem target_busyDuty (s : State) (l : LaneIx) (r : InFlight) (d : DutyIx) (j : TargetIx) : (s.busyDuty l r d).target j = s.target j := by
  unfold State.busyDuty; try dsimp only
  (repeat' split) <;> simp
@[simp] theorem lane_busyDuty (s : State) (l : LaneIx) (r : InFlight) (d : DutyIx) (j : LaneIx) : (s.busyDuty l r d).lane j = s.lane j := by
  unfold State.busyDuty; try dsimp only
  (repeat' split) <;> simp
@[simp] theorem lock_busyDuty (s : State) (l : LaneIx) (r : InFlight) (d : DutyIx) (j : LockIx) : (s.busyDuty l r d).lock j = s.lock j := by
  unfold State.busyDuty; try dsimp only
  (repeat' split) <;> simp
@[simp] theorem record_busyDuty (s : State) (l : LaneIx) (r : InFlight) (d : DutyIx) (j : LaneIx) : (s.busyDuty l r d).record j = s.record j := by
  unfold State.busyDuty; try dsimp only
  (repeat' split) <;> simp
@[simp] theorem time_busyDuty (s : State) (l : LaneIx) (r : InFlight) (d : DutyIx) : (s.busyDuty l r d).time = s.time := by
  unfold State.busyDuty; try dsimp only
  (repeat' split) <;> simp
@[simp] theorem port_busyDuty (s : State) (l : LaneIx) (r : InFlight) (d : DutyIx) : (s.busyDuty l r d).port = s.port := by
  unfold State.busyDuty; try dsimp only
  (repeat' split) <;> simp
@[simp] theorem busRead_busyDuty (s : State) (l : LaneIx) (r : InFlight) (d : DutyIx) : (s.busyDuty l r d).busRead = s.busRead := by
  unfold State.busyDuty; try dsimp only
  (repeat' split) <;> simp
@[simp] theorem pending_busyDuty (s : State) (l : LaneIx) (r : InFlight) (d : DutyIx) : (s.busyDuty l r d).pending = s.pending := by
  unfold State.busyDuty; try dsimp only
  (repeat' split) <;> simp
@[simp] theorem now_busyDuty (s : State) (l : LaneIx) (r : InFlight) (d : DutyIx) : (s.busyDuty l r d).now = s.now := by
  simp [State.now]

-- abandonDuty

@[simp] theorem target_abandonDuty (s : State) (d : DutyIx) (j : TargetIx) : (s.abandonDuty d).target j = s.target j := by
  simp [State.abandonDuty]
@[simp] theorem lane_abandonDuty (s : State) (d : DutyIx) (j : LaneIx) : (s.abandonDuty d).lane j = s.lane j := by
  simp [State.abandonDuty]
@[simp] theorem lock_abandonDuty (s : State) (d : DutyIx) (j : LockIx) : (s.abandonDuty d).lock j = s.lock j := by
  simp [State.abandonDuty]
@[simp] theorem record_abandonDuty (s : State) (d : DutyIx) (j : LaneIx) : (s.abandonDuty d).record j = s.record j := by
  simp [State.abandonDuty]
@[simp] theorem time_abandonDuty (s : State) (d : DutyIx) : (s.abandonDuty d).time = s.time := by
  simp [State.abandonDuty]
@[simp] theorem inc_abandonDuty (s : State) (d : DutyIx) : (s.abandonDuty d).inc = s.inc := by
  simp [State.abandonDuty]
@[simp] theorem port_abandonDuty (s : State) (d : DutyIx) : (s.abandonDuty d).port = s.port := by
  simp [State.abandonDuty]
@[simp] theorem busRead_abandonDuty (s : State) (d : DutyIx) : (s.abandonDuty d).busRead = s.busRead := by
  simp [State.abandonDuty]
@[simp] theorem pending_abandonDuty (s : State) (d : DutyIx) : (s.abandonDuty d).pending = s.pending := by
  simp [State.abandonDuty]
@[simp] theorem now_abandonDuty (s : State) (d : DutyIx) : (s.abandonDuty d).now = s.now := by
  simp [State.now]

-- dutyOutcome

@[simp] theorem target_dutyOutcome (s : State) (l : LaneIx) (r : InFlight) (d : DutyIx) (o : Outcome) (j : TargetIx) : (s.dutyOutcome l r d o).target j = s.target j := by
  cases o <;> simp [State.dutyOutcome]
@[simp] theorem lane_dutyOutcome (s : State) (l : LaneIx) (r : InFlight) (d : DutyIx) (o : Outcome) (j : LaneIx) : (s.dutyOutcome l r d o).lane j = s.lane j := by
  cases o <;> simp [State.dutyOutcome]
@[simp] theorem lock_dutyOutcome (s : State) (l : LaneIx) (r : InFlight) (d : DutyIx) (o : Outcome) (j : LockIx) : (s.dutyOutcome l r d o).lock j = s.lock j := by
  cases o <;> simp [State.dutyOutcome]
@[simp] theorem record_dutyOutcome (s : State) (l : LaneIx) (r : InFlight) (d : DutyIx) (o : Outcome) (j : LaneIx) : (s.dutyOutcome l r d o).record j = s.record j := by
  cases o <;> simp [State.dutyOutcome]
@[simp] theorem time_dutyOutcome (s : State) (l : LaneIx) (r : InFlight) (d : DutyIx) (o : Outcome) : (s.dutyOutcome l r d o).time = s.time := by
  cases o <;> simp [State.dutyOutcome]
@[simp] theorem port_dutyOutcome (s : State) (l : LaneIx) (r : InFlight) (d : DutyIx) (o : Outcome) : (s.dutyOutcome l r d o).port = s.port := by
  cases o <;> simp [State.dutyOutcome]
@[simp] theorem busRead_dutyOutcome (s : State) (l : LaneIx) (r : InFlight) (d : DutyIx) (o : Outcome) : (s.dutyOutcome l r d o).busRead = s.busRead := by
  cases o <;> simp [State.dutyOutcome]
@[simp] theorem pending_dutyOutcome (s : State) (l : LaneIx) (r : InFlight) (d : DutyIx) (o : Outcome) : (s.dutyOutcome l r d o).pending = s.pending := by
  cases o <;> simp [State.dutyOutcome]
@[simp] theorem now_dutyOutcome (s : State) (l : LaneIx) (r : InFlight) (d : DutyIx) (o : Outcome) : (s.dutyOutcome l r d o).now = s.now := by
  simp [State.now]

-- suspendDuties

@[simp] theorem target_suspendDuties (s : State) (t : TargetIx) (j : TargetIx) : (s.suspendDuties t).target j = s.target j := by
  unfold State.suspendDuties
  generalize allDuties = ds
  induction ds generalizing s with
  | nil => rfl
  | cons d rest ih =>
    rw [List.foldl_cons, ih]
    dsimp only
    split <;> simp
@[simp] theorem lane_suspendDuties (s : State) (t : TargetIx) (j : LaneIx) : (s.suspendDuties t).lane j = s.lane j := by
  unfold State.suspendDuties
  generalize allDuties = ds
  induction ds generalizing s with
  | nil => rfl
  | cons d rest ih =>
    rw [List.foldl_cons, ih]
    dsimp only
    split <;> simp
@[simp] theorem list_suspendDuties (s : State) (t : TargetIx) (j : LaneIx) : (s.suspendDuties t).list j = s.list j := by
  unfold State.suspendDuties
  generalize allDuties = ds
  induction ds generalizing s with
  | nil => rfl
  | cons d rest ih =>
    rw [List.foldl_cons, ih]
    dsimp only
    split <;> simp
@[simp] theorem lock_suspendDuties (s : State) (t : TargetIx) (j : LockIx) : (s.suspendDuties t).lock j = s.lock j := by
  unfold State.suspendDuties
  generalize allDuties = ds
  induction ds generalizing s with
  | nil => rfl
  | cons d rest ih =>
    rw [List.foldl_cons, ih]
    dsimp only
    split <;> simp
@[simp] theorem record_suspendDuties (s : State) (t : TargetIx) (j : LaneIx) : (s.suspendDuties t).record j = s.record j := by
  unfold State.suspendDuties
  generalize allDuties = ds
  induction ds generalizing s with
  | nil => rfl
  | cons d rest ih =>
    rw [List.foldl_cons, ih]
    dsimp only
    split <;> simp
@[simp] theorem time_suspendDuties (s : State) (t : TargetIx) : (s.suspendDuties t).time = s.time := by
  unfold State.suspendDuties
  generalize allDuties = ds
  induction ds generalizing s with
  | nil => rfl
  | cons d rest ih =>
    rw [List.foldl_cons, ih]
    dsimp only
    split <;> simp
@[simp] theorem inc_suspendDuties (s : State) (t : TargetIx) : (s.suspendDuties t).inc = s.inc := by
  unfold State.suspendDuties
  generalize allDuties = ds
  induction ds generalizing s with
  | nil => rfl
  | cons d rest ih =>
    rw [List.foldl_cons, ih]
    dsimp only
    split <;> simp
@[simp] theorem port_suspendDuties (s : State) (t : TargetIx) : (s.suspendDuties t).port = s.port := by
  unfold State.suspendDuties
  generalize allDuties = ds
  induction ds generalizing s with
  | nil => rfl
  | cons d rest ih =>
    rw [List.foldl_cons, ih]
    dsimp only
    split <;> simp
@[simp] theorem busRead_suspendDuties (s : State) (t : TargetIx) : (s.suspendDuties t).busRead = s.busRead := by
  unfold State.suspendDuties
  generalize allDuties = ds
  induction ds generalizing s with
  | nil => rfl
  | cons d rest ih =>
    rw [List.foldl_cons, ih]
    dsimp only
    split <;> simp
@[simp] theorem pending_suspendDuties (s : State) (t : TargetIx) : (s.suspendDuties t).pending = s.pending := by
  unfold State.suspendDuties
  generalize allDuties = ds
  induction ds generalizing s with
  | nil => rfl
  | cons d rest ih =>
    rw [List.foldl_cons, ih]
    dsimp only
    split <;> simp
@[simp] theorem now_suspendDuties (s : State) (t : TargetIx) : (s.suspendDuties t).now = s.now := by
  simp [State.now]

-- rebaseDuty

@[simp] theorem target_rebaseDuty (s : State) (d : DutyIx) (j : TargetIx) : (s.rebaseDuty d).target j = s.target j := by
  unfold State.rebaseDuty; try dsimp only
  (repeat' split) <;> simp
@[simp] theorem lock_rebaseDuty (s : State) (d : DutyIx) (j : LockIx) : (s.rebaseDuty d).lock j = s.lock j := by
  unfold State.rebaseDuty; try dsimp only
  (repeat' split) <;> simp
@[simp] theorem record_rebaseDuty (s : State) (d : DutyIx) (j : LaneIx) : (s.rebaseDuty d).record j = s.record j := by
  unfold State.rebaseDuty; try dsimp only
  (repeat' split) <;> simp
@[simp] theorem time_rebaseDuty (s : State) (d : DutyIx) : (s.rebaseDuty d).time = s.time := by
  unfold State.rebaseDuty; try dsimp only
  (repeat' split) <;> simp
@[simp] theorem port_rebaseDuty (s : State) (d : DutyIx) : (s.rebaseDuty d).port = s.port := by
  unfold State.rebaseDuty; try dsimp only
  (repeat' split) <;> simp
@[simp] theorem busRead_rebaseDuty (s : State) (d : DutyIx) : (s.rebaseDuty d).busRead = s.busRead := by
  unfold State.rebaseDuty; try dsimp only
  (repeat' split) <;> simp
@[simp] theorem pending_rebaseDuty (s : State) (d : DutyIx) : (s.rebaseDuty d).pending = s.pending := by
  unfold State.rebaseDuty; try dsimp only
  (repeat' split) <;> simp
@[simp] theorem now_rebaseDuty (s : State) (d : DutyIx) : (s.rebaseDuty d).now = s.now := by
  simp [State.now]

-- rebaseDuties

@[simp] theorem target_rebaseDuties (s : State) (t : TargetIx) (j : TargetIx) : (s.rebaseDuties t).target j = s.target j := by
  unfold State.rebaseDuties
  generalize allDuties = ds
  induction ds generalizing s with
  | nil => rfl
  | cons d rest ih =>
    rw [List.foldl_cons, ih]
    split <;> simp
@[simp] theorem lock_rebaseDuties (s : State) (t : TargetIx) (j : LockIx) : (s.rebaseDuties t).lock j = s.lock j := by
  unfold State.rebaseDuties
  generalize allDuties = ds
  induction ds generalizing s with
  | nil => rfl
  | cons d rest ih =>
    rw [List.foldl_cons, ih]
    split <;> simp
@[simp] theorem record_rebaseDuties (s : State) (t : TargetIx) (j : LaneIx) : (s.rebaseDuties t).record j = s.record j := by
  unfold State.rebaseDuties
  generalize allDuties = ds
  induction ds generalizing s with
  | nil => rfl
  | cons d rest ih =>
    rw [List.foldl_cons, ih]
    split <;> simp
@[simp] theorem time_rebaseDuties (s : State) (t : TargetIx) : (s.rebaseDuties t).time = s.time := by
  unfold State.rebaseDuties
  generalize allDuties = ds
  induction ds generalizing s with
  | nil => rfl
  | cons d rest ih =>
    rw [List.foldl_cons, ih]
    split <;> simp
@[simp] theorem port_rebaseDuties (s : State) (t : TargetIx) : (s.rebaseDuties t).port = s.port := by
  unfold State.rebaseDuties
  generalize allDuties = ds
  induction ds generalizing s with
  | nil => rfl
  | cons d rest ih =>
    rw [List.foldl_cons, ih]
    split <;> simp
@[simp] theorem busRead_rebaseDuties (s : State) (t : TargetIx) : (s.rebaseDuties t).busRead = s.busRead := by
  unfold State.rebaseDuties
  generalize allDuties = ds
  induction ds generalizing s with
  | nil => rfl
  | cons d rest ih =>
    rw [List.foldl_cons, ih]
    split <;> simp
@[simp] theorem pending_rebaseDuties (s : State) (t : TargetIx) : (s.rebaseDuties t).pending = s.pending := by
  unfold State.rebaseDuties
  generalize allDuties = ds
  induction ds generalizing s with
  | nil => rfl
  | cons d rest ih =>
    rw [List.foldl_cons, ih]
    split <;> simp
@[simp] theorem now_rebaseDuties (s : State) (t : TargetIx) : (s.rebaseDuties t).now = s.now := by
  simp [State.now]

-- entryCredited

@[simp] theorem lane_entryCredited (s : State) (t : TargetIx) (j : LaneIx) : (s.entryCredited t).lane j = s.lane j := by
  simp [State.entryCredited]
@[simp] theorem list_entryCredited (s : State) (t : TargetIx) (j : LaneIx) : (s.entryCredited t).list j = s.list j := by
  simp [State.entryCredited]
@[simp] theorem lock_entryCredited (s : State) (t : TargetIx) (j : LockIx) : (s.entryCredited t).lock j = s.lock j := by
  simp [State.entryCredited]
@[simp] theorem record_entryCredited (s : State) (t : TargetIx) (j : LaneIx) : (s.entryCredited t).record j = s.record j := by
  simp [State.entryCredited]
@[simp] theorem time_entryCredited (s : State) (t : TargetIx) : (s.entryCredited t).time = s.time := by
  simp [State.entryCredited]
@[simp] theorem port_entryCredited (s : State) (t : TargetIx) : (s.entryCredited t).port = s.port := by
  simp [State.entryCredited]
@[simp] theorem busRead_entryCredited (s : State) (t : TargetIx) : (s.entryCredited t).busRead = s.busRead := by
  simp [State.entryCredited]
@[simp] theorem pending_entryCredited (s : State) (t : TargetIx) : (s.entryCredited t).pending = s.pending := by
  simp [State.entryCredited]
@[simp] theorem now_entryCredited (s : State) (t : TargetIx) : (s.entryCredited t).now = s.now := by
  simp [State.now]

-- entryFailed

@[simp] theorem duty_entryFailed (s : State) (l : LaneIx) (r : InFlight) (t : TargetIx) (why : Reason) (j : DutyIx) : (s.entryFailed l r t why).duty j = s.duty j := by
  unfold State.entryFailed; try dsimp only
  (repeat' split) <;> simp
@[simp] theorem lane_entryFailed (s : State) (l : LaneIx) (r : InFlight) (t : TargetIx) (why : Reason) (j : LaneIx) : (s.entryFailed l r t why).lane j = s.lane j := by
  unfold State.entryFailed; try dsimp only
  (repeat' split) <;> simp
@[simp] theorem list_entryFailed (s : State) (l : LaneIx) (r : InFlight) (t : TargetIx) (why : Reason) (j : LaneIx) : (s.entryFailed l r t why).list j = s.list j := by
  unfold State.entryFailed; try dsimp only
  (repeat' split) <;> simp
@[simp] theorem lock_entryFailed (s : State) (l : LaneIx) (r : InFlight) (t : TargetIx) (why : Reason) (j : LockIx) : (s.entryFailed l r t why).lock j = s.lock j := by
  unfold State.entryFailed; try dsimp only
  (repeat' split) <;> simp
@[simp] theorem record_entryFailed (s : State) (l : LaneIx) (r : InFlight) (t : TargetIx) (why : Reason) (j : LaneIx) : (s.entryFailed l r t why).record j = s.record j := by
  unfold State.entryFailed; try dsimp only
  (repeat' split) <;> simp
@[simp] theorem time_entryFailed (s : State) (l : LaneIx) (r : InFlight) (t : TargetIx) (why : Reason) : (s.entryFailed l r t why).time = s.time := by
  unfold State.entryFailed; try dsimp only
  (repeat' split) <;> simp
@[simp] theorem port_entryFailed (s : State) (l : LaneIx) (r : InFlight) (t : TargetIx) (why : Reason) : (s.entryFailed l r t why).port = s.port := by
  unfold State.entryFailed; try dsimp only
  (repeat' split) <;> simp
@[simp] theorem busRead_entryFailed (s : State) (l : LaneIx) (r : InFlight) (t : TargetIx) (why : Reason) : (s.entryFailed l r t why).busRead = s.busRead := by
  unfold State.entryFailed; try dsimp only
  (repeat' split) <;> simp
@[simp] theorem pending_entryFailed (s : State) (l : LaneIx) (r : InFlight) (t : TargetIx) (why : Reason) : (s.entryFailed l r t why).pending = s.pending := by
  unfold State.entryFailed; try dsimp only
  (repeat' split) <;> simp
@[simp] theorem now_entryFailed (s : State) (l : LaneIx) (r : InFlight) (t : TargetIx) (why : Reason) : (s.entryFailed l r t why).now = s.now := by
  simp [State.now]

-- exitCredited

@[simp] theorem lock_exitCredited (s : State) (t : TargetIx) (j : LockIx) : (s.exitCredited t).lock j = s.lock j := by
  simp [State.exitCredited]
@[simp] theorem record_exitCredited (s : State) (t : TargetIx) (j : LaneIx) : (s.exitCredited t).record j = s.record j := by
  simp [State.exitCredited]
@[simp] theorem time_exitCredited (s : State) (t : TargetIx) : (s.exitCredited t).time = s.time := by
  simp [State.exitCredited]
@[simp] theorem port_exitCredited (s : State) (t : TargetIx) : (s.exitCredited t).port = s.port := by
  simp [State.exitCredited]
@[simp] theorem busRead_exitCredited (s : State) (t : TargetIx) : (s.exitCredited t).busRead = s.busRead := by
  simp [State.exitCredited]
@[simp] theorem pending_exitCredited (s : State) (t : TargetIx) : (s.exitCredited t).pending = s.pending := by
  simp [State.exitCredited]
@[simp] theorem now_exitCredited (s : State) (t : TargetIx) : (s.exitCredited t).now = s.now := by
  simp [State.now]

-- exitFailed

@[simp] theorem duty_exitFailed (s : State) (l : LaneIx) (r : InFlight) (t : TargetIx) (why : Reason) (j : DutyIx) : (s.exitFailed l r t why).duty j = s.duty j := by
  unfold State.exitFailed; try dsimp only
  (repeat' split) <;> simp
@[simp] theorem lane_exitFailed (s : State) (l : LaneIx) (r : InFlight) (t : TargetIx) (why : Reason) (j : LaneIx) : (s.exitFailed l r t why).lane j = s.lane j := by
  unfold State.exitFailed; try dsimp only
  (repeat' split) <;> simp
@[simp] theorem list_exitFailed (s : State) (l : LaneIx) (r : InFlight) (t : TargetIx) (why : Reason) (j : LaneIx) : (s.exitFailed l r t why).list j = s.list j := by
  unfold State.exitFailed; try dsimp only
  (repeat' split) <;> simp
@[simp] theorem lock_exitFailed (s : State) (l : LaneIx) (r : InFlight) (t : TargetIx) (why : Reason) (j : LockIx) : (s.exitFailed l r t why).lock j = s.lock j := by
  unfold State.exitFailed; try dsimp only
  (repeat' split) <;> simp
@[simp] theorem record_exitFailed (s : State) (l : LaneIx) (r : InFlight) (t : TargetIx) (why : Reason) (j : LaneIx) : (s.exitFailed l r t why).record j = s.record j := by
  unfold State.exitFailed; try dsimp only
  (repeat' split) <;> simp
@[simp] theorem time_exitFailed (s : State) (l : LaneIx) (r : InFlight) (t : TargetIx) (why : Reason) : (s.exitFailed l r t why).time = s.time := by
  unfold State.exitFailed; try dsimp only
  (repeat' split) <;> simp
@[simp] theorem port_exitFailed (s : State) (l : LaneIx) (r : InFlight) (t : TargetIx) (why : Reason) : (s.exitFailed l r t why).port = s.port := by
  unfold State.exitFailed; try dsimp only
  (repeat' split) <;> simp
@[simp] theorem busRead_exitFailed (s : State) (l : LaneIx) (r : InFlight) (t : TargetIx) (why : Reason) : (s.exitFailed l r t why).busRead = s.busRead := by
  unfold State.exitFailed; try dsimp only
  (repeat' split) <;> simp
@[simp] theorem pending_exitFailed (s : State) (l : LaneIx) (r : InFlight) (t : TargetIx) (why : Reason) : (s.exitFailed l r t why).pending = s.pending := by
  unfold State.exitFailed; try dsimp only
  (repeat' split) <;> simp
@[simp] theorem now_exitFailed (s : State) (l : LaneIx) (r : InFlight) (t : TargetIx) (why : Reason) : (s.exitFailed l r t why).now = s.now := by
  simp [State.now]

-- holdAbandoned

@[simp] theorem lane_holdAbandoned (s : State) (t : TargetIx) (j : LaneIx) : (s.holdAbandoned t).lane j = s.lane j := by
  simp [State.holdAbandoned]
@[simp] theorem list_holdAbandoned (s : State) (t : TargetIx) (j : LaneIx) : (s.holdAbandoned t).list j = s.list j := by
  simp [State.holdAbandoned]
@[simp] theorem lock_holdAbandoned (s : State) (t : TargetIx) (j : LockIx) : (s.holdAbandoned t).lock j = s.lock j := by
  simp [State.holdAbandoned]
@[simp] theorem record_holdAbandoned (s : State) (t : TargetIx) (j : LaneIx) : (s.holdAbandoned t).record j = s.record j := by
  simp [State.holdAbandoned]
@[simp] theorem time_holdAbandoned (s : State) (t : TargetIx) : (s.holdAbandoned t).time = s.time := by
  simp [State.holdAbandoned]
@[simp] theorem port_holdAbandoned (s : State) (t : TargetIx) : (s.holdAbandoned t).port = s.port := by
  simp [State.holdAbandoned]
@[simp] theorem busRead_holdAbandoned (s : State) (t : TargetIx) : (s.holdAbandoned t).busRead = s.busRead := by
  simp [State.holdAbandoned]
@[simp] theorem pending_holdAbandoned (s : State) (t : TargetIx) : (s.holdAbandoned t).pending = s.pending := by
  simp [State.holdAbandoned]
@[simp] theorem now_holdAbandoned (s : State) (t : TargetIx) : (s.holdAbandoned t).now = s.now := by
  simp [State.now]

-- holdFailed

@[simp] theorem duty_holdFailed (s : State) (l : LaneIx) (r : InFlight) (entry : Bool) (why : Reason) (j : DutyIx) : (s.holdFailed l r entry why).duty j = s.duty j := by
  cases entry <;> simp [State.holdFailed]
@[simp] theorem lane_holdFailed (s : State) (l : LaneIx) (r : InFlight) (entry : Bool) (why : Reason) (j : LaneIx) : (s.holdFailed l r entry why).lane j = s.lane j := by
  cases entry <;> simp [State.holdFailed]
@[simp] theorem list_holdFailed (s : State) (l : LaneIx) (r : InFlight) (entry : Bool) (why : Reason) (j : LaneIx) : (s.holdFailed l r entry why).list j = s.list j := by
  cases entry <;> simp [State.holdFailed]
@[simp] theorem lock_holdFailed (s : State) (l : LaneIx) (r : InFlight) (entry : Bool) (why : Reason) (j : LockIx) : (s.holdFailed l r entry why).lock j = s.lock j := by
  cases entry <;> simp [State.holdFailed]
@[simp] theorem record_holdFailed (s : State) (l : LaneIx) (r : InFlight) (entry : Bool) (why : Reason) (j : LaneIx) : (s.holdFailed l r entry why).record j = s.record j := by
  cases entry <;> simp [State.holdFailed]
@[simp] theorem time_holdFailed (s : State) (l : LaneIx) (r : InFlight) (entry : Bool) (why : Reason) : (s.holdFailed l r entry why).time = s.time := by
  cases entry <;> simp [State.holdFailed]
@[simp] theorem port_holdFailed (s : State) (l : LaneIx) (r : InFlight) (entry : Bool) (why : Reason) : (s.holdFailed l r entry why).port = s.port := by
  cases entry <;> simp [State.holdFailed]
@[simp] theorem busRead_holdFailed (s : State) (l : LaneIx) (r : InFlight) (entry : Bool) (why : Reason) : (s.holdFailed l r entry why).busRead = s.busRead := by
  cases entry <;> simp [State.holdFailed]
@[simp] theorem pending_holdFailed (s : State) (l : LaneIx) (r : InFlight) (entry : Bool) (why : Reason) : (s.holdFailed l r entry why).pending = s.pending := by
  cases entry <;> simp [State.holdFailed]
@[simp] theorem now_holdFailed (s : State) (l : LaneIx) (r : InFlight) (entry : Bool) (why : Reason) : (s.holdFailed l r entry why).now = s.now := by
  simp [State.now]

-- holdCredited

@[simp] theorem lock_holdCredited (s : State) (r : InFlight) (entry : Bool) (j : LockIx) : (s.holdCredited r entry).lock j = s.lock j := by
  cases entry <;> simp [State.holdCredited]
@[simp] theorem record_holdCredited (s : State) (r : InFlight) (entry : Bool) (j : LaneIx) : (s.holdCredited r entry).record j = s.record j := by
  cases entry <;> simp [State.holdCredited]
@[simp] theorem time_holdCredited (s : State) (r : InFlight) (entry : Bool) : (s.holdCredited r entry).time = s.time := by
  cases entry <;> simp [State.holdCredited]
@[simp] theorem port_holdCredited (s : State) (r : InFlight) (entry : Bool) : (s.holdCredited r entry).port = s.port := by
  cases entry <;> simp [State.holdCredited]
@[simp] theorem busRead_holdCredited (s : State) (r : InFlight) (entry : Bool) : (s.holdCredited r entry).busRead = s.busRead := by
  cases entry <;> simp [State.holdCredited]
@[simp] theorem pending_holdCredited (s : State) (r : InFlight) (entry : Bool) : (s.holdCredited r entry).pending = s.pending := by
  cases entry <;> simp [State.holdCredited]
@[simp] theorem now_holdCredited (s : State) (r : InFlight) (entry : Bool) : (s.holdCredited r entry).now = s.now := by
  simp [State.now]

-- holdOutcome

@[simp] theorem lock_holdOutcome (s : State) (l : LaneIx) (r : InFlight) (entry : Bool) (o : Outcome) (j : LockIx) : (s.holdOutcome l r entry o).lock j = s.lock j := by
  cases o <;> simp [State.holdOutcome]
@[simp] theorem record_holdOutcome (s : State) (l : LaneIx) (r : InFlight) (entry : Bool) (o : Outcome) (j : LaneIx) : (s.holdOutcome l r entry o).record j = s.record j := by
  cases o <;> simp [State.holdOutcome]
@[simp] theorem time_holdOutcome (s : State) (l : LaneIx) (r : InFlight) (entry : Bool) (o : Outcome) : (s.holdOutcome l r entry o).time = s.time := by
  cases o <;> simp [State.holdOutcome]
@[simp] theorem port_holdOutcome (s : State) (l : LaneIx) (r : InFlight) (entry : Bool) (o : Outcome) : (s.holdOutcome l r entry o).port = s.port := by
  cases o <;> simp [State.holdOutcome]
@[simp] theorem busRead_holdOutcome (s : State) (l : LaneIx) (r : InFlight) (entry : Bool) (o : Outcome) : (s.holdOutcome l r entry o).busRead = s.busRead := by
  cases o <;> simp [State.holdOutcome]
@[simp] theorem pending_holdOutcome (s : State) (l : LaneIx) (r : InFlight) (entry : Bool) (o : Outcome) : (s.holdOutcome l r entry o).pending = s.pending := by
  cases o <;> simp [State.holdOutcome]
@[simp] theorem now_holdOutcome (s : State) (l : LaneIx) (r : InFlight) (entry : Bool) (o : Outcome) : (s.holdOutcome l r entry o).now = s.now := by
  simp [State.now]

-- ownerTakes

@[simp] theorem lock_ownerTakes (s : State) (l : LaneIx) (r : InFlight) (o : Outcome) (j : LockIx) : (s.ownerTakes l r o).lock j = s.lock j := by
  unfold State.ownerTakes
  split <;> simp
@[simp] theorem record_ownerTakes (s : State) (l : LaneIx) (r : InFlight) (o : Outcome) (j : LaneIx) : (s.ownerTakes l r o).record j = s.record j := by
  unfold State.ownerTakes
  split <;> simp
@[simp] theorem time_ownerTakes (s : State) (l : LaneIx) (r : InFlight) (o : Outcome) : (s.ownerTakes l r o).time = s.time := by
  unfold State.ownerTakes
  split <;> simp
@[simp] theorem port_ownerTakes (s : State) (l : LaneIx) (r : InFlight) (o : Outcome) : (s.ownerTakes l r o).port = s.port := by
  unfold State.ownerTakes
  split <;> simp
@[simp] theorem busRead_ownerTakes (s : State) (l : LaneIx) (r : InFlight) (o : Outcome) : (s.ownerTakes l r o).busRead = s.busRead := by
  unfold State.ownerTakes
  split <;> simp
@[simp] theorem pending_ownerTakes (s : State) (l : LaneIx) (r : InFlight) (o : Outcome) : (s.ownerTakes l r o).pending = s.pending := by
  unfold State.ownerTakes
  split <;> simp
@[simp] theorem now_ownerTakes (s : State) (l : LaneIx) (r : InFlight) (o : Outcome) : (s.ownerTakes l r o).now = s.now := by
  simp [State.now]

-- reportToLane

@[simp] theorem duty_reportToLane (s : State) (l : LaneIx) (o : Outcome) (good : Bool) (j : DutyIx) : (s.reportToLane l o good).duty j = s.duty j := by
  unfold State.reportToLane; try dsimp only
  (repeat' split) <;> simp
@[simp] theorem target_reportToLane (s : State) (l : LaneIx) (o : Outcome) (good : Bool) (j : TargetIx) : (s.reportToLane l o good).target j = s.target j := by
  unfold State.reportToLane; try dsimp only
  (repeat' split) <;> simp
@[simp] theorem list_reportToLane (s : State) (l : LaneIx) (o : Outcome) (good : Bool) (j : LaneIx) : (s.reportToLane l o good).list j = s.list j := by
  unfold State.reportToLane; try dsimp only
  (repeat' split) <;> simp
@[simp] theorem lock_reportToLane (s : State) (l : LaneIx) (o : Outcome) (good : Bool) (j : LockIx) : (s.reportToLane l o good).lock j = s.lock j := by
  unfold State.reportToLane; try dsimp only
  (repeat' split) <;> simp
@[simp] theorem record_reportToLane (s : State) (l : LaneIx) (o : Outcome) (good : Bool) (j : LaneIx) : (s.reportToLane l o good).record j = s.record j := by
  unfold State.reportToLane; try dsimp only
  (repeat' split) <;> simp
@[simp] theorem time_reportToLane (s : State) (l : LaneIx) (o : Outcome) (good : Bool) : (s.reportToLane l o good).time = s.time := by
  unfold State.reportToLane; try dsimp only
  (repeat' split) <;> simp
@[simp] theorem port_reportToLane (s : State) (l : LaneIx) (o : Outcome) (good : Bool) : (s.reportToLane l o good).port = s.port := by
  unfold State.reportToLane; try dsimp only
  (repeat' split) <;> simp
@[simp] theorem busRead_reportToLane (s : State) (l : LaneIx) (o : Outcome) (good : Bool) : (s.reportToLane l o good).busRead = s.busRead := by
  unfold State.reportToLane; try dsimp only
  (repeat' split) <;> simp
@[simp] theorem pending_reportToLane (s : State) (l : LaneIx) (o : Outcome) (good : Bool) : (s.reportToLane l o good).pending = s.pending := by
  unfold State.reportToLane; try dsimp only
  (repeat' split) <;> simp
@[simp] theorem now_reportToLane (s : State) (l : LaneIx) (o : Outcome) (good : Bool) : (s.reportToLane l o good).now = s.now := by
  simp [State.now]

-- quietStart

@[simp] theorem duty_quietStart (s : State) (l : LaneIx) (d : DutyIx) (q : Nat) (o : Outcome) (j : DutyIx) : (s.quietStart l d q o).duty j = s.duty j := by
  unfold State.quietStart; try dsimp only
  (repeat' split) <;> simp
@[simp] theorem target_quietStart (s : State) (l : LaneIx) (d : DutyIx) (q : Nat) (o : Outcome) (j : TargetIx) : (s.quietStart l d q o).target j = s.target j := by
  unfold State.quietStart; try dsimp only
  (repeat' split) <;> simp
@[simp] theorem list_quietStart (s : State) (l : LaneIx) (d : DutyIx) (q : Nat) (o : Outcome) (j : LaneIx) : (s.quietStart l d q o).list j = s.list j := by
  unfold State.quietStart; try dsimp only
  (repeat' split) <;> simp
@[simp] theorem record_quietStart (s : State) (l : LaneIx) (d : DutyIx) (q : Nat) (o : Outcome) (j : LaneIx) : (s.quietStart l d q o).record j = s.record j := by
  unfold State.quietStart; try dsimp only
  (repeat' split) <;> simp
@[simp] theorem time_quietStart (s : State) (l : LaneIx) (d : DutyIx) (q : Nat) (o : Outcome) : (s.quietStart l d q o).time = s.time := by
  unfold State.quietStart; try dsimp only
  (repeat' split) <;> simp
@[simp] theorem inc_quietStart (s : State) (l : LaneIx) (d : DutyIx) (q : Nat) (o : Outcome) : (s.quietStart l d q o).inc = s.inc := by
  unfold State.quietStart; try dsimp only
  (repeat' split) <;> simp
@[simp] theorem port_quietStart (s : State) (l : LaneIx) (d : DutyIx) (q : Nat) (o : Outcome) : (s.quietStart l d q o).port = s.port := by
  unfold State.quietStart; try dsimp only
  (repeat' split) <;> simp
@[simp] theorem busRead_quietStart (s : State) (l : LaneIx) (d : DutyIx) (q : Nat) (o : Outcome) : (s.quietStart l d q o).busRead = s.busRead := by
  unfold State.quietStart; try dsimp only
  (repeat' split) <;> simp
@[simp] theorem pending_quietStart (s : State) (l : LaneIx) (d : DutyIx) (q : Nat) (o : Outcome) : (s.quietStart l d q o).pending = s.pending := by
  unfold State.quietStart; try dsimp only
  (repeat' split) <;> simp
@[simp] theorem now_quietStart (s : State) (l : LaneIx) (d : DutyIx) (q : Nat) (o : Outcome) : (s.quietStart l d q o).now = s.now := by
  simp [State.now]

-- leaveBusy

@[simp] theorem duty_leaveBusy (s : State) (l : LaneIx) (r : InFlight) (q : Nat) (o : Outcome) (j : DutyIx) : (s.leaveBusy l r q o).duty j = s.duty j := by
  unfold State.leaveBusy; try dsimp only
  (repeat' split) <;> simp
@[simp] theorem target_leaveBusy (s : State) (l : LaneIx) (r : InFlight) (q : Nat) (o : Outcome) (j : TargetIx) : (s.leaveBusy l r q o).target j = s.target j := by
  unfold State.leaveBusy; try dsimp only
  (repeat' split) <;> simp
@[simp] theorem list_leaveBusy (s : State) (l : LaneIx) (r : InFlight) (q : Nat) (o : Outcome) (j : LaneIx) : (s.leaveBusy l r q o).list j = s.list j := by
  unfold State.leaveBusy; try dsimp only
  (repeat' split) <;> simp
@[simp] theorem time_leaveBusy (s : State) (l : LaneIx) (r : InFlight) (q : Nat) (o : Outcome) : (s.leaveBusy l r q o).time = s.time := by
  unfold State.leaveBusy; try dsimp only
  (repeat' split) <;> simp
@[simp] theorem inc_leaveBusy (s : State) (l : LaneIx) (r : InFlight) (q : Nat) (o : Outcome) : (s.leaveBusy l r q o).inc = s.inc := by
  unfold State.leaveBusy; try dsimp only
  (repeat' split) <;> simp
@[simp] theorem port_leaveBusy (s : State) (l : LaneIx) (r : InFlight) (q : Nat) (o : Outcome) : (s.leaveBusy l r q o).port = s.port := by
  unfold State.leaveBusy; try dsimp only
  (repeat' split) <;> simp
@[simp] theorem busRead_leaveBusy (s : State) (l : LaneIx) (r : InFlight) (q : Nat) (o : Outcome) : (s.leaveBusy l r q o).busRead = s.busRead := by
  unfold State.leaveBusy; try dsimp only
  (repeat' split) <;> simp
@[simp] theorem pending_leaveBusy (s : State) (l : LaneIx) (r : InFlight) (q : Nat) (o : Outcome) : (s.leaveBusy l r q o).pending = s.pending := by
  unfold State.leaveBusy; try dsimp only
  (repeat' split) <;> simp
@[simp] theorem now_leaveBusy (s : State) (l : LaneIx) (r : InFlight) (q : Nat) (o : Outcome) : (s.leaveBusy l r q o).now = s.now := by
  simp [State.now]

-- completeRetire

@[simp] theorem target_completeRetire (s : State) (r : InFlight) (j : TargetIx) : (s.completeRetire r).target j = s.target j := by
  unfold State.completeRetire; try dsimp only
  (repeat' split) <;> simp
@[simp] theorem record_completeRetire (s : State) (r : InFlight) (j : LaneIx) : (s.completeRetire r).record j = s.record j := by
  unfold State.completeRetire; try dsimp only
  (repeat' split) <;> simp
@[simp] theorem time_completeRetire (s : State) (r : InFlight) : (s.completeRetire r).time = s.time := by
  unfold State.completeRetire; try dsimp only
  (repeat' split) <;> simp
@[simp] theorem busRead_completeRetire (s : State) (r : InFlight) : (s.completeRetire r).busRead = s.busRead := by
  unfold State.completeRetire; try dsimp only
  (repeat' split) <;> simp
@[simp] theorem pending_completeRetire (s : State) (r : InFlight) : (s.completeRetire r).pending = s.pending := by
  unfold State.completeRetire; try dsimp only
  (repeat' split) <;> simp
@[simp] theorem now_completeRetire (s : State) (r : InFlight) : (s.completeRetire r).now = s.now := by
  simp [State.now]

-- takeOutcome

@[simp] theorem time_takeOutcome (s : State) (l : LaneIx) (r : InFlight) (o : Outcome) (good : Bool) : (s.takeOutcome l r o good).time = s.time := by
  simp [State.takeOutcome]
@[simp] theorem busRead_takeOutcome (s : State) (l : LaneIx) (r : InFlight) (o : Outcome) (good : Bool) : (s.takeOutcome l r o good).busRead = s.busRead := by
  simp [State.takeOutcome]
@[simp] theorem pending_takeOutcome (s : State) (l : LaneIx) (r : InFlight) (o : Outcome) (good : Bool) : (s.takeOutcome l r o good).pending = s.pending := by
  simp [State.takeOutcome]
@[simp] theorem now_takeOutcome (s : State) (l : LaneIx) (r : InFlight) (o : Outcome) (good : Bool) : (s.takeOutcome l r o good).now = s.now := by
  simp [State.now]

/-- A transaction's end removes its record (R68, R72). -/
theorem record_takeOutcome (s : State) (l : LaneIx) (r : InFlight) (o : Outcome) (good : Bool) (j : LaneIx) :
    (s.takeOutcome l r o good).record j = if j = l then none else s.record j := by
  simp only [State.takeOutcome, record_completeRetire, State.leaveBusy]
  split <;> simp

-- endTransaction

@[simp] theorem time_endTransaction (s : State) (l : LaneIx) (r : InFlight) (o : Outcome) (good : Bool) : (s.endTransaction l r o good).time = s.time := by
  simp [State.endTransaction]
@[simp] theorem busRead_endTransaction (s : State) (l : LaneIx) (r : InFlight) (o : Outcome) (good : Bool) : (s.endTransaction l r o good).busRead = s.busRead := by
  simp [State.endTransaction]
@[simp] theorem pending_endTransaction (s : State) (l : LaneIx) (r : InFlight) (o : Outcome) (good : Bool) : (s.endTransaction l r o good).pending = s.pending := by
  simp [State.endTransaction]
@[simp] theorem now_endTransaction (s : State) (l : LaneIx) (r : InFlight) (o : Outcome) (good : Bool) : (s.endTransaction l r o good).now = s.now := by
  simp [State.now]

/-- What follows the outcome of a transaction is looks only (R72). -/
theorem endTransaction_looked (s : State) (l : LaneIx) (r : InFlight) (o : Outcome) (good : Bool) :
    Looked (s.takeOutcome l r o good) (s.endTransaction l r o good) :=
  looksAfter_looked _ _ _ (by simp)

-- The comparison under the Mask (R2)

/-- A byte equals another under a mask byte when they agree in every bit that the mask holds at one. -/
theorem and_eq_and_iff (e m v : Byte) :
    e &&& m = v &&& m ↔ ∀ b < 8, m.getLsbD b = true → v.getLsbD b = e.getLsbD b := by
  constructor
  · intro h b _ hm
    have := congrArg (·.getLsbD b) h
    simpa [hm] using this.symm
  · intro h
    refine BitVec.eq_of_getLsbD_eq fun b hb => ?_
    rw [BitVec.getLsbD_and, BitVec.getLsbD_and]
    cases hm : m.getLsbD b
    · simp
    · rw [h b hb hm]

/-- The comparison of the model is R2's. -/
theorem equalUnderMask_iff (expected mask data : List Byte) :
    equalUnderMask expected mask data = true ↔ matchesUnder expected mask data := by
  unfold equalUnderMask matchesUnder
  simp only [← and_eq_and_iff, List.all_eq_true, decide_eq_true_eq]
  constructor
  · intro h k e m v he hm hv
    exact h (e, m, v) (List.mem_of_getElem? (i := k) (by simp [List.getElem?_zip_eq_some, he, hm, hv]))
  · intro h p hp
    obtain ⟨k, hk⟩ := List.getElem?_of_mem hp
    simp only [List.getElem?_zip_eq_some] at hk
    exact h k _ _ _ hk.1 hk.2.1 hk.2.2

end Sys2Proof.Machine
end

