-- ==== Sys2Proof/Laws/Commands.lean ====
section
/-! SUPPORT. What the commands given through COMMAND leave as they were: the time base, the bus word and the queue. -/

set_option Elab.async false

namespace Sys2Proof.Machine

/-- The state of an answer has the time base, the bus word and the queue of `s`. -/
def Answer.keeps (s : State) : Answer → Prop
  | .done t => t.time = s.time ∧ t.busRead = s.busRead ∧ t.pending = s.pending
  | .refused _ => True
  | .waits t => t.time = s.time ∧ t.busRead = s.busRead ∧ t.pending = s.pending

theorem keeps_checked {s : State} (cs : List (Bool × CmdResult)) {a : Answer} (h : a.keeps s) :
    (Answer.checked cs a).keeps s := by
  unfold Answer.checked
  split
  · trivial
  · exact h

theorem keeps_withDuty {s : State} (n : Nat) {k : DutyIx → Answer} (h : ∀ d, (k d).keeps s) : (withDuty n k).keeps s := by
  unfold withDuty
  split
  · exact h _
  · trivial

theorem keeps_withTarget {s : State} (n : Nat) {k : TargetIx → Answer} (h : ∀ t, (k t).keeps s) :
    (withTarget n k).keeps s := by
  unfold withTarget
  split
  · exact h _
  · trivial

theorem keeps_withLane {s : State} (n : Nat) {k : LaneIx → Answer} (h : ∀ l, (k l).keeps s) : (withLane n k).keeps s := by
  unfold withLane
  split
  · exact h _
  · trivial

-- releaseQuietLock

@[simp] theorem duty_releaseQuietLock (s : State) (l : LaneIx) (j : DutyIx) : (s.releaseQuietLock l).duty j = s.duty j := by
  unfold State.releaseQuietLock; try dsimp only
  (repeat' split) <;> simp
@[simp] theorem target_releaseQuietLock (s : State) (l : LaneIx) (j : TargetIx) : (s.releaseQuietLock l).target j = s.target j := by
  unfold State.releaseQuietLock; try dsimp only
  (repeat' split) <;> simp
@[simp] theorem lane_releaseQuietLock (s : State) (l : LaneIx) (j : LaneIx) : (s.releaseQuietLock l).lane j = s.lane j := by
  unfold State.releaseQuietLock; try dsimp only
  (repeat' split) <;> simp
@[simp] theorem list_releaseQuietLock (s : State) (l : LaneIx) (j : LaneIx) : (s.releaseQuietLock l).list j = s.list j := by
  unfold State.releaseQuietLock; try dsimp only
  (repeat' split) <;> simp
@[simp] theorem record_releaseQuietLock (s : State) (l : LaneIx) (j : LaneIx) : (s.releaseQuietLock l).record j = s.record j := by
  unfold State.releaseQuietLock; try dsimp only
  (repeat' split) <;> simp
@[simp] theorem time_releaseQuietLock (s : State) (l : LaneIx) : (s.releaseQuietLock l).time = s.time := by
  unfold State.releaseQuietLock; try dsimp only
  (repeat' split) <;> simp
@[simp] theorem inc_releaseQuietLock (s : State) (l : LaneIx) : (s.releaseQuietLock l).inc = s.inc := by
  unfold State.releaseQuietLock; try dsimp only
  (repeat' split) <;> simp
@[simp] theorem port_releaseQuietLock (s : State) (l : LaneIx) : (s.releaseQuietLock l).port = s.port := by
  unfold State.releaseQuietLock; try dsimp only
  (repeat' split) <;> simp
@[simp] theorem busRead_releaseQuietLock (s : State) (l : LaneIx) : (s.releaseQuietLock l).busRead = s.busRead := by
  unfold State.releaseQuietLock; try dsimp only
  (repeat' split) <;> simp
@[simp] theorem pending_releaseQuietLock (s : State) (l : LaneIx) : (s.releaseQuietLock l).pending = s.pending := by
  unfold State.releaseQuietLock; try dsimp only
  (repeat' split) <;> simp
@[simp] theorem now_releaseQuietLock (s : State) (l : LaneIx) : (s.releaseQuietLock l).now = s.now := by
  simp [State.now]

-- closeLane

@[simp] theorem time_closeLane (s : State) (l : LaneIx) : (s.closeLane l).time = s.time := by
  unfold State.closeLane
  dsimp only
  split <;> simp
@[simp] theorem busRead_closeLane (s : State) (l : LaneIx) : (s.closeLane l).busRead = s.busRead := by
  unfold State.closeLane
  dsimp only
  split <;> simp
@[simp] theorem pending_closeLane (s : State) (l : LaneIx) : (s.closeLane l).pending = s.pending := by
  unfold State.closeLane
  dsimp only
  split <;> simp
@[simp] theorem now_closeLane (s : State) (l : LaneIx) : (s.closeLane l).now = s.now := by
  simp [State.now]

-- setOwed

@[simp] theorem target_setOwed (s : State) (d : DutyIx) (v : Int) (j : TargetIx) : (s.setOwed d v).target j = s.target j := by
  unfold State.setOwed
  dsimp only
  (repeat' split) <;> simp
@[simp] theorem lock_setOwed (s : State) (d : DutyIx) (v : Int) (j : LockIx) : (s.setOwed d v).lock j = s.lock j := by
  unfold State.setOwed
  dsimp only
  (repeat' split) <;> simp
@[simp] theorem record_setOwed (s : State) (d : DutyIx) (v : Int) (j : LaneIx) : (s.setOwed d v).record j = s.record j := by
  unfold State.setOwed
  dsimp only
  (repeat' split) <;> simp
@[simp] theorem time_setOwed (s : State) (d : DutyIx) (v : Int) : (s.setOwed d v).time = s.time := by
  unfold State.setOwed
  dsimp only
  (repeat' split) <;> simp
@[simp] theorem port_setOwed (s : State) (d : DutyIx) (v : Int) : (s.setOwed d v).port = s.port := by
  unfold State.setOwed
  dsimp only
  (repeat' split) <;> simp
@[simp] theorem busRead_setOwed (s : State) (d : DutyIx) (v : Int) : (s.setOwed d v).busRead = s.busRead := by
  unfold State.setOwed
  dsimp only
  (repeat' split) <;> simp
@[simp] theorem pending_setOwed (s : State) (d : DutyIx) (v : Int) : (s.setOwed d v).pending = s.pending := by
  unfold State.setOwed
  dsimp only
  (repeat' split) <;> simp
@[simp] theorem now_setOwed (s : State) (d : DutyIx) (v : Int) : (s.setOwed d v).now = s.now := by
  simp [State.now]

theorem answerDefineDuty_keeps (s : State) : (answerDefineDuty s).keeps s := by
  refine keeps_withDuty _ fun i => ?_
  refine keeps_checked _ ?_
  simp [Answer.keeps]

theorem answerStartDuty_keeps (s : State) : (answerStartDuty s).keeps s := by
  refine keeps_withDuty _ fun i => ?_
  refine keeps_checked _ ?_
  dsimp only
  split <;> simp [Answer.keeps]

theorem answerStopDuty_keeps (s : State) : (answerStopDuty s).keeps s := by
  refine keeps_withDuty _ fun i => ?_
  refine keeps_checked _ ?_
  simp [Answer.keeps]

theorem answerRetireDuty_keeps (s : State) : (answerRetireDuty s).keeps s := by
  refine keeps_withDuty _ fun i => ?_
  refine keeps_checked _ ?_
  dsimp only
  split
  · split <;> simp [Answer.keeps]
  · simp [Answer.keeps]

theorem answerReviveDuty_keeps (s : State) : (answerReviveDuty s).keeps s := by
  refine keeps_withDuty _ fun i => ?_
  refine keeps_checked _ ?_
  simp [Answer.keeps]

theorem answerSetOwed_keeps (s : State) : (answerSetOwed s).keeps s := by
  refine keeps_withDuty _ fun i => ?_
  refine keeps_checked _ ?_
  dsimp only
  simp [Answer.keeps]

theorem answerProdDuty_keeps (s : State) : (answerProdDuty s).keeps s := by
  refine keeps_withDuty _ fun i => ?_
  refine keeps_checked _ ?_
  dsimp only
  split
  · simp [Answer.keeps]
  · simp [Answer.keeps]

theorem answerSnapshotDuty_keeps (s : State) : (answerSnapshotDuty s).keeps s := by
  refine keeps_withDuty _ fun i => ?_
  dsimp only
  split <;> simp [Answer.keeps]

theorem answerDefineTarget_keeps (s : State) : (answerDefineTarget s).keeps s := by
  refine keeps_withTarget _ fun i => ?_
  refine keeps_checked _ ?_
  simp [Answer.keeps]

theorem answerDropTarget_keeps (s : State) : (answerDropTarget s).keeps s := by
  refine keeps_withTarget _ fun i => ?_
  refine keeps_checked _ ?_
  simp [Answer.keeps]

theorem answerHoldTarget_keeps (s : State) : (answerHoldTarget s).keeps s := by
  refine keeps_withTarget _ fun i => ?_
  refine keeps_checked _ ?_
  simp [Answer.keeps]

theorem answerReleaseTarget_keeps (s : State) : (answerReleaseTarget s).keeps s := by
  refine keeps_withTarget _ fun i => ?_
  refine keeps_checked _ ?_
  simp [Answer.keeps]

theorem answerSnapshotTarget_keeps (s : State) : (answerSnapshotTarget s).keeps s := by
  refine keeps_withTarget _ fun i => ?_
  simp [Answer.keeps]

theorem answerConfigureLane_keeps (s : State) : (answerConfigureLane s).keeps s := by
  unfold answerConfigureLane
  dsimp only
  refine keeps_withLane _ fun i => ?_
  refine keeps_checked _ ?_
  simp [Answer.keeps]

theorem answerOpenLane_keeps (s : State) : (answerOpenLane s).keeps s := by
  refine keeps_withLane _ fun i => ?_
  refine keeps_checked _ ?_
  simp [Answer.keeps]

theorem answerCloseLane_keeps (s : State) : (answerCloseLane s).keeps s := by
  refine keeps_withLane _ fun i => ?_
  simp [Answer.keeps]

theorem answerBlackoutLane_keeps (s : State) : (answerBlackoutLane s).keeps s := by
  refine keeps_withLane _ fun i => ?_
  refine keeps_checked _ ?_
  simp [Answer.keeps]

theorem answerResumeLane_keeps (s : State) : (answerResumeLane s).keeps s := by
  refine keeps_withLane _ fun i => ?_
  refine keeps_checked _ ?_
  simp [Answer.keeps]

theorem answerClearSuspect_keeps (s : State) : (answerClearSuspect s).keeps s := by
  refine keeps_withLane _ fun i => ?_
  refine keeps_checked _ ?_
  simp [Answer.keeps]

/-- A command given through COMMAND changes neither the time base nor the queue (R149). -/
theorem command_keeps (s : State) (code : Byte) (owner : State → Answer) (h : ∀ z, (owner z).keeps z) :
    (s.command code owner).time = s.time ∧ (s.command code owner).busRead = s.busRead ∧
      (s.command code owner).pending = s.pending := by
  unfold State.command
  split
  · simp
  · have := h (s.latch code)
    revert this
    cases owner (s.latch code) <;> simp [Answer.keeps, State.conclude]

theorem abort_keeps (s : State) : s.abort.time = s.time ∧ s.abort.busRead = s.busRead ∧ s.abort.pending = s.pending := by
  unfold State.abort
  dsimp only
  split <;> simp

/-- A fold of updates that keep a field keeps it. -/
theorem foldl_keeps {β γ : Type} (view : State → γ) (f : State → β → State) (h : ∀ s b, view (f s b) = view s)
    (bs : List β) (s : State) : view (bs.foldl f s) = view s := by
  induction bs generalizing s with
  | nil => rfl
  | cons b rest ih => rw [List.foldl_cons, ih, h]

theorem schedulerReset_keeps (s : State) :
    s.schedulerReset.time = s.time ∧ s.schedulerReset.busRead = s.busRead ∧ s.schedulerReset.pending = s.pending := by
  unfold State.schedulerReset
  dsimp only
  simp only [time_recordResult, busRead_recordResult, pending_recordResult, State.recordStranded]
  rw [foldl_keeps State.time _ (by simp), foldl_keeps State.busRead _ (by simp), foldl_keeps State.pending _ (by simp)]
  simp only [State.resetLanes, State.resetTargets]
  rw [foldl_keeps State.time _ (by simp), foldl_keeps State.busRead _ (by simp), foldl_keeps State.pending _ (by simp)]
  rw [foldl_keeps State.time _ (by simp), foldl_keeps State.busRead _ (by simp), foldl_keeps State.pending _ (by simp)]
  exact ⟨rfl, rfl, rfl⟩

/-- A write of any code changes neither the time base nor the queue. -/
theorem writeCommand_keeps (s : State) (code : Byte) :
    (s.writeCommand code).time = s.time ∧ (s.writeCommand code).busRead = s.busRead ∧
      (s.writeCommand code).pending = s.pending := by
  unfold State.writeCommand
  split
  · exact command_keeps s _ _ answerDefineDuty_keeps
  · exact command_keeps s _ _ answerStartDuty_keeps
  · exact command_keeps s _ _ answerStopDuty_keeps
  · exact command_keeps s _ _ answerRetireDuty_keeps
  · exact command_keeps s _ _ answerReviveDuty_keeps
  · exact command_keeps s _ _ answerSetOwed_keeps
  · exact command_keeps s _ _ answerProdDuty_keeps
  · exact command_keeps s _ _ answerSnapshotDuty_keeps
  · exact command_keeps s _ _ answerDefineTarget_keeps
  · exact command_keeps s _ _ answerDropTarget_keeps
  · exact command_keeps s _ _ answerHoldTarget_keeps
  · exact command_keeps s _ _ answerReleaseTarget_keeps
  · exact command_keeps s _ _ answerSnapshotTarget_keeps
  · exact command_keeps s _ _ answerConfigureLane_keeps
  · exact command_keeps s _ _ answerOpenLane_keeps
  · exact command_keeps s _ _ answerCloseLane_keeps
  · exact command_keeps s _ _ answerBlackoutLane_keeps
  · exact command_keeps s _ _ answerResumeLane_keeps
  · exact command_keeps s _ _ answerClearSuspect_keeps
  · exact abort_keeps s
  · exact schedulerReset_keeps s
  · unfold State.unknown
    split <;> simp

end Sys2Proof.Machine
end

