-- ==== Sys2Proof/Laws/Link.lean ====
section
/-! SUPPORT. What the part puts on a link: where stop conditions stand, what a report sends, and the byte read of the
bits sent. -/

set_option Elab.async false

namespace Sys2Proof.Machine

/-- A byte read in the order in which it is sent is that byte (R132, R134). -/
theorem byteOfWire_wireBits (order : BitOrder) (b : Byte) : byteOfWire order (wireBits order b) = b := by
  have key : ∀ b : Byte, byteOfWire .msbFirst (wireBits .msbFirst b) = b := by decide
  cases order
  · exact key b
  · simpa [byteOfWire, wireBits] using key b

theorem stop_not_mem_addressedByte (b : Byte) : Symbol.stop ∉ addressedByte b := by
  simp [addressedByte]

theorem stop_not_mem_readPhase (repeated : Bool) (address : Byte) : Symbol.stop ∉ readPhase repeated address := by
  cases repeated <;> simp [readPhase, addressedByte]

theorem stop_not_mem_addressedRequest (address : Byte) (bytes : List Byte) :
    Symbol.stop ∉ addressedRequest address bytes := by
  simp [addressedRequest, addressedByte]

theorem stop_not_mem_selectRequest (order : BitOrder) (address : Byte) (bytes : List Byte) :
    Symbol.stop ∉ selectRequest order address bytes := by
  simp [selectRequest]

theorem stop_not_mem_requestFrame (s : State) (l : LaneIx) : Symbol.stop ∉ s.requestFrame l := by
  unfold State.requestFrame
  split
  · simp
  · split
    · exact stop_not_mem_selectRequest _ _ _
    · exact stop_not_mem_addressedRequest _ _

theorem stop_not_mem_opening (s : State) (l : LaneIx) (r : InFlight) : Symbol.stop ∉ s.opening l r := by
  unfold State.opening
  split
  · exact stop_not_mem_requestFrame s l
  · simp
  · simp only [List.mem_append, not_or]
    exact ⟨stop_not_mem_requestFrame s l, stop_not_mem_readPhase _ _⟩
  · exact stop_not_mem_readPhase _ _

/-- What is under way in a frame holds no stop condition: a stop comes only with the frame's end, or after a PENDING (R136,
R139). -/
theorem stop_not_mem_underWay (s : State) (l : LaneIx) (r : InFlight) : Symbol.stop ∉ s.underWay l r := by
  unfold State.underWay
  split
  · simp
  · simpa using stop_not_mem_opening s l r

/-- A frame cut off under a held clock line forms no stop then: a stop that is given is that of the PENDING before (R139,
R140). -/
theorem sentCutOff_held {s : State} {l : LaneIx} (r : InFlight) (h : (s.lane l).clockHeld = true)
    {f : List Symbol} (hf : f ∈ s.sentCutOff l r) :
    f = [] ∨ awaitsTick r = false ∧ ∃ g, f = pendingStop (s.lane l).mode r ++ g ∧ Symbol.stop ∉ g := by
  unfold State.sentCutOff at hf
  simp only [h, ite_true, ite_self, List.append_nil] at hf
  split at hf
  · simp_all
  · split at hf
    · simp_all
    · simp only [List.mem_map, List.mem_inits] at hf
      obtain ⟨g, hg, rfl⟩ := hf
      exact .inr ⟨by simp_all, g, rfl, fun hs => stop_not_mem_underWay s l r (hg.subset hs)⟩

/-- A transaction that ends between two status reads: the select line is deasserted, or the PENDING's own stop is given, unless
the clock line is held (R133, R136, R139). -/
theorem sentCutOff_awaitsTick {s : State} {l : LaneIx} {r : InFlight} (hw : (s.lane l).stopWaiting = false)
    (h : awaitsTick r = true) :
    s.sentCutOff l r = [if (s.lane l).clockHeld = true then [] else frameEnd (s.lane l).mode (s.addressOf r)] := by
  simp [State.sentCutOff, hw, h]

/-- A status read puts on the link what precedes the byte, the byte, and the frame's end where it ends the reading (R133,
R136). -/
theorem sends_statusRead {s : State} {l : LaneIx} {r : InFlight} (v : Byte) (hr : s.record l = some r)
    (hc : (s.lane l).clockHeld = false) (hm : mayReadStatus r = true) :
    s.sends (.statusRead l v) = [s.sentWithStatus l r v] := by
  simp [State.sends, State.movingRecord, hr, hc, Option.filter, hm]

theorem sends_dataByte {s : State} {l : LaneIx} {r : InFlight} (v : Byte) (hr : s.record l = some r)
    (hc : (s.lane l).clockHeld = false) (hm : s.awaitsData r = true) : s.sends (.dataByte l v) = [s.sentWithData l] := by
  simp [State.sends, State.movingRecord, hr, hc, Option.filter, hm]

theorem sends_checkByte {s : State} {l : LaneIx} {r : InFlight} (v : Byte) (hr : s.record l = some r)
    (hc : (s.lane l).clockHeld = false) (hm : s.awaitsCheck r = true) :
    s.sends (.checkByte l v) = [s.sentWithCheck l r] := by
  simp [State.sends, State.movingRecord, hr, hc, Option.filter, hm]

/-- With the clock line of an ADDRESSED lane held, no byte moves (R134, R139). -/
theorem sends_statusRead_held {s : State} {l : LaneIx} (v : Byte) (hc : (s.lane l).clockHeld = true) :
    s.sends (.statusRead l v) = [[]] := by
  simp [State.sends, State.movingRecord, hc]

end Sys2Proof.Machine
end

