-- ==== Sys2Proof/Laws/PerInstr.lean ====
section
/-! SUPPORT. One lemma for each command: the code of Table 10-3 that gives it names it again. -/

set_option Elab.async false

namespace Sys2Proof.Laws.CodeAgrees

/-- A code that gives the command names the command (Table 10-3). -/
def Statement (i : Instr) : Prop := ∀ c, codeOf i = some c → commandOfCode c = some i

theorem defineDuty : Statement (.defineDuty) := by
  intro c h
  simp only [codeOf, Option.some.injEq] at h
  subst h
  decide

theorem startDuty : Statement (.startDuty) := by
  intro c h
  simp only [codeOf, Option.some.injEq] at h
  subst h
  decide

theorem stopDuty : Statement (.stopDuty) := by
  intro c h
  simp only [codeOf, Option.some.injEq] at h
  subst h
  decide

theorem retireDuty : Statement (.retireDuty) := by
  intro c h
  simp only [codeOf, Option.some.injEq] at h
  subst h
  decide

theorem reviveDuty : Statement (.reviveDuty) := by
  intro c h
  simp only [codeOf, Option.some.injEq] at h
  subst h
  decide

theorem setOwed : Statement (.setOwed) := by
  intro c h
  simp only [codeOf, Option.some.injEq] at h
  subst h
  decide

theorem prodDuty : Statement (.prodDuty) := by
  intro c h
  simp only [codeOf, Option.some.injEq] at h
  subst h
  decide

theorem snapshotDuty : Statement (.snapshotDuty) := by
  intro c h
  simp only [codeOf, Option.some.injEq] at h
  subst h
  decide

theorem defineTarget : Statement (.defineTarget) := by
  intro c h
  simp only [codeOf, Option.some.injEq] at h
  subst h
  decide

theorem dropTarget : Statement (.dropTarget) := by
  intro c h
  simp only [codeOf, Option.some.injEq] at h
  subst h
  decide

theorem holdTarget : Statement (.holdTarget) := by
  intro c h
  simp only [codeOf, Option.some.injEq] at h
  subst h
  decide

theorem releaseTarget : Statement (.releaseTarget) := by
  intro c h
  simp only [codeOf, Option.some.injEq] at h
  subst h
  decide

theorem snapshotTarget : Statement (.snapshotTarget) := by
  intro c h
  simp only [codeOf, Option.some.injEq] at h
  subst h
  decide

theorem configureLane : Statement (.configureLane) := by
  intro c h
  simp only [codeOf, Option.some.injEq] at h
  subst h
  decide

theorem openLane : Statement (.openLane) := by
  intro c h
  simp only [codeOf, Option.some.injEq] at h
  subst h
  decide

theorem closeLane : Statement (.closeLane) := by
  intro c h
  simp only [codeOf, Option.some.injEq] at h
  subst h
  decide

theorem blackoutLane : Statement (.blackoutLane) := by
  intro c h
  simp only [codeOf, Option.some.injEq] at h
  subst h
  decide

theorem resumeLane : Statement (.resumeLane) := by
  intro c h
  simp only [codeOf, Option.some.injEq] at h
  subst h
  decide

theorem clearSuspect : Statement (.clearSuspect) := by
  intro c h
  simp only [codeOf, Option.some.injEq] at h
  subst h
  decide

theorem abort : Statement (.abort) := by
  intro c h
  simp only [codeOf, Option.some.injEq] at h
  subst h
  decide

theorem schedulerReset : Statement (.schedulerReset) := by
  intro c h
  simp only [codeOf, Option.some.injEq] at h
  subst h
  decide

theorem unknownCode (code : Byte) : Statement (.unknownCode code) := by
  intro c h
  simp only [codeOf, reduceCtorEq] at h

theorem commandDiscarded (code : Byte) : Statement (.commandDiscarded code) := by
  intro c h
  simp only [codeOf, reduceCtorEq] at h

theorem portClear (value : Word) : Statement (.portClear value) := by
  intro c h
  simp only [codeOf, reduceCtorEq] at h

theorem incidentPop (value : Word) : Statement (.incidentPop value) := by
  intro c h
  simp only [codeOf, reduceCtorEq] at h

theorem eventSummaryWrite (value : Word) : Statement (.eventSummaryWrite value) := by
  intro c h
  simp only [codeOf, reduceCtorEq] at h

theorem eventEnableWrite (value : Word) : Statement (.eventEnableWrite value) := by
  intro c h
  simp only [codeOf, reduceCtorEq] at h

theorem trimValueWrite (value : Word) : Statement (.trimValueWrite value) := by
  intro c h
  simp only [codeOf, reduceCtorEq] at h

theorem trimWindowWrite (value : Word) : Statement (.trimWindowWrite value) := by
  intro c h
  simp only [codeOf, reduceCtorEq] at h

theorem epochLoRead : Statement (.epochLoRead) := by
  intro c h
  simp only [codeOf, reduceCtorEq] at h

theorem registerWrite (reg : BitVec 7) (value : Word) : Statement (.registerWrite reg value) := by
  intro c h
  simp only [codeOf, reduceCtorEq] at h

theorem reset : Statement (.reset) := by
  intro c h
  simp only [codeOf, reduceCtorEq] at h

theorem powerOn : Statement (.powerOn) := by
  intro c h
  simp only [codeOf, reduceCtorEq] at h

theorem tickCompletion : Statement (.tickCompletion) := by
  intro c h
  simp only [codeOf, reduceCtorEq] at h

theorem windowStart : Statement (.windowStart) := by
  intro c h
  simp only [codeOf, reduceCtorEq] at h

theorem partEnd : Statement (.partEnd) := by
  intro c h
  simp only [codeOf, reduceCtorEq] at h

theorem boundary (duty : DutyIx) : Statement (.boundary duty) := by
  intro c h
  simp only [codeOf, reduceCtorEq] at h

theorem startTime (duty : DutyIx) : Statement (.startTime duty) := by
  intro c h
  simp only [codeOf, reduceCtorEq] at h

theorem stopTime (duty : DutyIx) : Statement (.stopTime duty) := by
  intro c h
  simp only [codeOf, reduceCtorEq] at h

theorem backoffEnd (duty : DutyIx) : Statement (.backoffEnd duty) := by
  intro c h
  simp only [codeOf, reduceCtorEq] at h

theorem responseDeadline (lane : LaneIx) : Statement (.responseDeadline lane) := by
  intro c h
  simp only [codeOf, reduceCtorEq] at h

theorem quietEnd (lane : LaneIx) : Statement (.quietEnd lane) := by
  intro c h
  simp only [codeOf, reduceCtorEq] at h

theorem blackoutEnd (lane : LaneIx) : Statement (.blackoutEnd lane) := by
  intro c h
  simp only [codeOf, reduceCtorEq] at h

theorem autoResume (lane : LaneIx) : Statement (.autoResume lane) := by
  intro c h
  simp only [codeOf, reduceCtorEq] at h

theorem minimumHoldEnd (target : TargetIx) : Statement (.minimumHoldEnd target) := by
  intro c h
  simp only [codeOf, reduceCtorEq] at h

theorem maximumHoldEnd (target : TargetIx) : Statement (.maximumHoldEnd target) := by
  intro c h
  simp only [codeOf, reduceCtorEq] at h

theorem settleEnd (target : TargetIx) : Statement (.settleEnd target) := by
  intro c h
  simp only [codeOf, reduceCtorEq] at h

theorem statusRead (lane : LaneIx) (value : Byte) : Statement (.statusRead lane value) := by
  intro c h
  simp only [codeOf, reduceCtorEq] at h

theorem dataByte (lane : LaneIx) (value : Byte) : Statement (.dataByte lane value) := by
  intro c h
  simp only [codeOf, reduceCtorEq] at h

theorem checkByte (lane : LaneIx) (value : Byte) : Statement (.checkByte lane value) := by
  intro c h
  simp only [codeOf, reduceCtorEq] at h

theorem addressNotAcknowledged (lane : LaneIx) : Statement (.addressNotAcknowledged lane) := by
  intro c h
  simp only [codeOf, reduceCtorEq] at h

theorem requestByteRefused (lane : LaneIx) : Statement (.requestByteRefused lane) := by
  intro c h
  simp only [codeOf, reduceCtorEq] at h

theorem clockLineHold (lane : LaneIx) : Statement (.clockLineHold lane) := by
  intro c h
  simp only [codeOf, reduceCtorEq] at h

theorem clockLineRelease (lane : LaneIx) : Statement (.clockLineRelease lane) := by
  intro c h
  simp only [codeOf, reduceCtorEq] at h

theorem refclkCycle : Statement (.refclkCycle) := by
  intro c h
  simp only [codeOf, reduceCtorEq] at h

end Sys2Proof.Laws.CodeAgrees
end

