-- ==== Sys2Proof/Laws/Staging.lean ====
section
/-! SUPPORT. The staging layouts in words and bits: what each command reads is laid out so, and a layout fixes what is read. -/

set_option Elab.async false

namespace Sys2Proof.Machine

-- Words and bytes

theorem wordAt_eq (v : Vector Word 32) (i : Nat) (h : i < 32) : wordAt v i = v[i] := by
  simp [wordAt, List.getD, h]

theorem lowByte_toNat (w : Word) : (lowByte w).toNat = w.toNat % 256 := by
  simp [lowByte]

theorem highByte_toNat (w : Word) : (highByte w).toNat = w.toNat / 256 := by
  have := w.isLt
  simp only [highByte, BitVec.extractLsb'_toNat, Nat.shiftRight_eq_div_pow]
  omega

theorem epochOfWords_toNat (a b c : Word) :
    (epochOfWords a b c).toNat = a.toNat + 65536 * b.toNat + 4294967296 * c.toNat := by
  have := a.isLt
  have := b.isLt
  have := c.isLt
  simp only [epochOfWords, BitVec.toNat_ofNat]
  omega

-- Optional epoch values

theorem epochFrom_stagedEpoch (v : Vector Word 32) (present : Bool) (i : Nat) (h : i + 2 < 32) :
    epochFrom present v[i] v[i + 1] v[i + 2] (stagedEpoch v present i) := by
  cases present <;>
    simp [epochFrom, stagedEpoch, epochOfWords_toNat, wordAt_eq v i (by omega), wordAt_eq v (i + 1) (by omega),
      wordAt_eq v (i + 2) h]

theorem epochFrom_unique {p : Bool} {lo mid hi : Word} {e f : Option Epoch} (he : epochFrom p lo mid hi e)
    (hf : epochFrom p lo mid hi f) : e = f := by
  cases p
  · rw [he.2 rfl, hf.2 rfl]
  · obtain ⟨a, rfl, ha⟩ := he.1 rfl
    obtain ⟨b, rfl, hb⟩ := hf.1 rfl
    exact congrArg some (BitVec.eq_of_toNat_eq (ha.trans hb.symm))

-- Byte lists

theorem stagedBytes_length (v : Vector Word 32) (i n : Nat) : (stagedBytes v i n).length = n := by
  simp [stagedBytes]

theorem bytesFrom_stagedBytes (v : Vector Word 32) (i n : Nat) (h : 2 * i + n ≤ 64) : bytesFrom v i (stagedBytes v i n) := by
  intro k b hb
  have hk : k < n := by
    have := (List.getElem?_eq_some_iff.mp hb).1
    rwa [stagedBytes_length] at this
  have hw : i + k / 2 < 32 := by omega
  refine ⟨v[i + k / 2], by simp [hw], ?_⟩
  have : b = stagedByte v i k := by simpa [stagedBytes, hk] using hb.symm
  rw [this]
  unfold stagedByte
  split <;> simp [lowByte_toNat, highByte_toNat, wordAt_eq v _ hw]

theorem bytesFrom_unique {v : Vector Word 32} {i : Nat} {a b : List Byte} (h : a.length = b.length) (ha : bytesFrom v i a)
    (hb : bytesFrom v i b) : a = b := by
  refine List.ext_getElem h fun k h1 h2 => BitVec.eq_of_toNat_eq ?_
  obtain ⟨w, hw, e⟩ := ha k a[k] (List.getElem?_eq_getElem h1)
  obtain ⟨u, hu, f⟩ := hb k b[k] (List.getElem?_eq_getElem h2)
  rw [hw] at hu
  cases hu
  rw [e, f]

-- DEFINE DUTY

theorem dutyStaging_laidOut (v : Vector Word 32) : (dutyStaging v).laidOut v := by
  have h17 := v[17].isLt
  have start := epochFrom_stagedEpoch v ((wordAt v 6).getLsbD 13) 20 (by omega)
  have stop := epochFrom_stagedEpoch v ((wordAt v 6).getLsbD 14) 23 (by omega)
  rw [wordAt_eq v 6 (by omega)] at start stop
  refine ⟨⟨?_, ?_⟩, ⟨?_, ?_⟩, ⟨?_, ?_, ?_, ?_, ?_⟩, ?_, ?_, ⟨?_, ?_, ?_, ?_⟩, ?_, ?_, ?_, ?_, ?_⟩
  all_goals simp only [dutyStaging, wordAt_eq, lowByte_toNat, highByte_toNat, fieldOf, Nat.reduceLT]
  case refine_12 => omega
  case refine_15 => omega
  case refine_16 => intro h; rw [h]; rfl
  case refine_17 => intro h; rw [h]; rfl
  case refine_19 => exact start
  case refine_20 => exact stop
  all_goals norm_num

theorem DutyStaging.laidOut_unique {a b : DutyStaging} {v : Vector Word 32} (ha : a.laidOut v) (hb : b.laidOut v) : a = b := by
  obtain ⟨⟨h1, h2⟩, ⟨h3, h4⟩, ⟨h5, h6, h7, h8, h9⟩, h10, h11, ⟨h12, h13, h14, h15⟩, h16, h17, h18, h19, h20⟩ := ha
  obtain ⟨⟨g1, g2⟩, ⟨g3, g4⟩, ⟨g5, g6, g7, g8, g9⟩, g10, g11, ⟨g12, g13, g14, g15⟩, g16, g17, g18, g19, g20⟩ := hb
  have e3 : a.actionCode = b.actionCode := BitVec.eq_of_toNat_eq (h3.trans g3.symm)
  have e16 : a.initialOwed = b.initialOwed := by
    cases h : v[6].getLsbD 12
    · rw [h17 h, g17 h]
    · rw [h16 h, g16 h]
  have e19 := epochFrom_unique h19 g19
  have e20 := epochFrom_unique h20 g20
  cases a
  cases b
  simp_all

/-- A layout fixes what DEFINE DUTY reads. -/
theorem DutyStaging.laidOut_iff {w : DutyStaging} {v : Vector Word 32} : w.laidOut v ↔ w = dutyStaging v :=
  ⟨fun h => DutyStaging.laidOut_unique h (dutyStaging_laidOut v), fun h => h ▸ dutyStaging_laidOut v⟩

theorem dutyDefOf_laidOut (v : Vector Word 32) (ht : (dutyStaging v).target < 32) (hp : (dutyStaging v).payloadLength ≤ 8)
    (hr : (dutyStaging v).readbackLength ≤ 8) : (dutyDefOf v).laidOut (dutyStaging v) v := by
  refine ⟨Nat.mod_eq_of_lt ht, rfl, ⟨stagedBytes_length .., bytesFrom_stagedBytes v 2 _ (by omega)⟩, rfl, rfl, ?_, ?_,
    rfl, rfl, rfl, rfl, rfl, rfl, rfl, rfl, rfl, rfl, rfl, rfl, rfl⟩
  · intro h
    exact ⟨_, _, if_pos h, if_pos h, stagedBytes_length .., stagedBytes_length ..,
      bytesFrom_stagedBytes v 7 _ (by omega), bytesFrom_stagedBytes v 11 _ (by omega)⟩
  · intro h
    simp [dutyDefOf, h]

theorem DutyDef.laidOut_unique {y z : DutyDef} {w : DutyStaging} {v : Vector Word 32} (hy : y.laidOut w v)
    (hz : z.laidOut w v) : y = z := by
  obtain ⟨h1, h2, ⟨h3, h4⟩, h5, h6, h7, h8, h9, h10, h11, h12, h13, h14, h15, h16, h17, h18, h19, h20, h21⟩ := hy
  obtain ⟨g1, g2, ⟨g3, g4⟩, g5, g6, g7, g8, g9, g10, g11, g12, g13, g14, g15, g16, g17, g18, g19, g20, g21⟩ := hz
  have e1 : y.target = z.target := Fin.ext (h1.trans g1.symm)
  have e3 := bytesFrom_unique (h3.trans g3.symm) h4 g4
  have e7 : y.expected = z.expected ∧ y.mask = z.mask := by
    cases h : w.compare
    · rw [(h8 h).1, (h8 h).2, (g8 h).1, (g8 h).2]
      exact ⟨rfl, rfl⟩
    · obtain ⟨a, b, p1, p2, p3, p4, p5, p6⟩ := h7 h
      obtain ⟨c, d, q1, q2, q3, q4, q5, q6⟩ := g7 h
      rw [p1, p2, q1, q2, bytesFrom_unique (p3.trans q3.symm) p5 q5, bytesFrom_unique (p4.trans q4.symm) p6 q6]
      exact ⟨rfl, rfl⟩
  clear h4 g4 h7 g7 h8 g8
  cases y
  cases z
  simp_all

/-- A layout fixes the definition that DEFINE DUTY writes. -/
theorem DutyDef.eq_of_laidOut {y : DutyDef} {v : Vector Word 32} (h : y.laidOut (dutyStaging v) v)
    (hp : (dutyStaging v).payloadLength ≤ 8) (hr : (dutyStaging v).readbackLength ≤ 8) : y = dutyDefOf v :=
  DutyDef.laidOut_unique h (dutyDefOf_laidOut v (h.1 ▸ y.target.isLt) hp hr)

-- DEFINE TARGET

theorem targetStaging_laidOut (v : Vector Word 32) : (targetStaging v).laidOut v := by
  simp [TargetStaging.laidOut, targetStaging, wordAt_eq, lowByte_toNat, highByte_toNat]

theorem TargetStaging.laidOut_unique {a b : TargetStaging} {v : Vector Word 32} (ha : a.laidOut v) (hb : b.laidOut v) :
    a = b := by
  obtain ⟨⟨h1, h2⟩, ⟨h3, h4⟩, ⟨h5, h6⟩, ⟨h7, h8⟩, ⟨h9, h10⟩, h11, h12, h13⟩ := ha
  obtain ⟨⟨g1, g2⟩, ⟨g3, g4⟩, ⟨g5, g6⟩, ⟨g7, g8⟩, ⟨g9, g10⟩, g11, g12, g13⟩ := hb
  have e3 : a.address = b.address := BitVec.eq_of_toNat_eq (h3.trans g3.symm)
  have e7 : a.entryCode = b.entryCode := BitVec.eq_of_toNat_eq (h7.trans g7.symm)
  have e9 : a.exitCode = b.exitCode := BitVec.eq_of_toNat_eq (h9.trans g9.symm)
  cases a
  cases b
  simp_all

/-- A layout fixes what DEFINE TARGET reads. -/
theorem TargetStaging.laidOut_iff {w : TargetStaging} {v : Vector Word 32} : w.laidOut v ↔ w = targetStaging v :=
  ⟨fun h => TargetStaging.laidOut_unique h (targetStaging_laidOut v), fun h => h ▸ targetStaging_laidOut v⟩

theorem targetDefOf_laidOut (v : Vector Word 32) (hl : (targetStaging v).lane < 4) (he : (targetStaging v).entryLength ≤ 4)
    (hx : (targetStaging v).exitLength ≤ 4) : (targetDefOf v).laidOut (targetStaging v) v :=
  ⟨Nat.mod_eq_of_lt hl, rfl, rfl, rfl, rfl, ⟨stagedBytes_length .., bytesFrom_stagedBytes v 4 _ (by omega)⟩, rfl,
    ⟨stagedBytes_length .., bytesFrom_stagedBytes v 7 _ (by omega)⟩, rfl, rfl, rfl, rfl⟩

theorem TargetDef.laidOut_unique {y z : TargetDef} {w : TargetStaging} {v : Vector Word 32} (hy : y.laidOut w v)
    (hz : z.laidOut w v) : y = z := by
  obtain ⟨h1, h2, h3, h4, h5, ⟨h6, h7⟩, h8, ⟨h9, h10⟩, h11, h12, h13, h14⟩ := hy
  obtain ⟨g1, g2, g3, g4, g5, ⟨g6, g7⟩, g8, ⟨g9, g10⟩, g11, g12, g13, g14⟩ := hz
  have e1 : y.lane = z.lane := Fin.ext (h1.trans g1.symm)
  have e6 := bytesFrom_unique (h6.trans g6.symm) h7 g7
  have e9 := bytesFrom_unique (h9.trans g9.symm) h10 g10
  clear h7 g7 h10 g10
  cases y
  cases z
  simp_all

/-- A layout fixes the definition that DEFINE TARGET writes. -/
theorem TargetDef.eq_of_laidOut {y : TargetDef} {v : Vector Word 32} (h : y.laidOut (targetStaging v) v)
    (he : (targetStaging v).entryLength ≤ 4) (hx : (targetStaging v).exitLength ≤ 4) : y = targetDefOf v :=
  TargetDef.laidOut_unique h (targetDefOf_laidOut v (h.1 ▸ y.lane.isLt) he hx)

-- CONFIGURE LANE and the other commands

theorem laneStaging_laidOut (v : Vector Word 32) : (laneStaging v).laidOut v := by
  simp +contextual [LaneStaging.laidOut, laneStaging, wordAt_eq, lowByte_toNat, highByte_toNat]

theorem LaneStaging.laidOut_unique {a b : LaneStaging} {v : Vector Word 32} (ha : a.laidOut v) (hb : b.laidOut v) : a = b := by
  obtain ⟨h1, h2, h3, h4, h5, h6, h7, h8, h9⟩ := ha
  obtain ⟨g1, g2, g3, g4, g5, g6, g7, g8, g9⟩ := hb
  have e2 : a.mode = b.mode := by
    cases h : v[1].getLsbD 0
    · rw [h2 h, g2 h]
    · rw [h3 h, g3 h]
  have e4 : a.bitOrder = b.bitOrder := by
    cases h : v[1].getLsbD 1
    · rw [h4 h, g4 h]
    · rw [h5 h, g5 h]
  cases a
  cases b
  simp_all

/-- A layout fixes what CONFIGURE LANE reads. -/
theorem LaneStaging.laidOut_iff {w : LaneStaging} {v : Vector Word 32} : w.laidOut v ↔ w = laneStaging v :=
  ⟨fun h => LaneStaging.laidOut_unique h (laneStaging_laidOut v), fun h => h ▸ laneStaging_laidOut v⟩

end Sys2Proof.Machine
end

