-- ==== Sys2Proof/Tests/Slice0.lean ====
section
/-! SUPPORT. Tests: ill-formed commands, one step of each command with values of the manual, and for every statement with
hypotheses a state that meets them. -/

set_option Elab.async false

namespace Sys2Proof.Tests

open Sys2Proof Sys2Proof.Machine

-- WellFormed

/-- An assigned code is no UNKNOWN_CODE. -/
theorem test_wf_unknownCode : Instr.wf (.unknownCode 0x01) = false ∧ Instr.wf (.unknownCode 0x00) = true := by decide +kernel

/-- ABORT and SCHEDULER RESET are never discarded. -/
theorem test_wf_commandDiscarded :
    Instr.wf (.commandDiscarded 0x30) = false ∧ Instr.wf (.commandDiscarded 0x31) = false ∧
      Instr.wf (.commandDiscarded 0x04) = true := by decide +kernel

/-- A write to COMMAND, PORT_CLEAR or EVENT_ENABLE is no REGISTER_WRITE. -/
theorem test_wf_registerWrite :
    Instr.wf (.registerWrite 0x01 7) = false ∧ Instr.wf (.registerWrite 0x49 7) = false ∧
      Instr.wf (.registerWrite 0x08 7) = true := by decide +kernel

/-- The table gives no row any bits. -/
theorem test_no_word_spells_a_command : decodeTableWord 16 1 = none ∧ (State.reset.withFetchWord 16 1) = State.reset :=
  ⟨rfl, rfl⟩

-- Small states

/-- The state after a command; every command answers one. -/
def after (c : Instr) (s : State) : State :=
  match exec c s with
  | .next t => t
  | .fault _ => s
  | .refused _ => s

/-- Staging words written. -/
def stage (ws : List (Nat × Word)) (s : State) : State := ws.foldl (fun acc p => acc.writeStaging p.1 p.2) s

/-- Duty 3, target 1 and lane 0 with its record, at an epoch; everything else as after power-on. -/
def small (now : Epoch) (x : Duty) (y : Target) (z : Lane) (r : Option InFlight) : State :=
  { ((((State.reset.setDuty 3 x).setTarget 1 y).setLane 0 z).setRecord 0 r) with time := { epoch := now } }

def defn0 : DutyDef where
  target := 1
  actionCode := 0x21
  payload := [0x05]
  readbackLength := 1
  interval := 100
  deferLimit := 2
  advanceLimit := 1
  initialOwed := some 1
  retryLimit := 1
  busyLimit := 2
  shareGroup := 2

/-- A RUNNING duty, Owed 0. -/
def duty0 : Duty := { defn := defn0, state := .running, nextBoundary := some 1000 }

/-- The same duty with its transaction in flight. -/
def duty1 : Duty := { duty0 with owed := 1, inFlight := true }

def target0 : Target where
  defn :=
    { lane := 0, address := 3, responseTimeout := 20, busyBackoff := 50, entryCode := 0x40, exitCode := 0x41
      minimumHold := 5, maximumHold := 2, settleTime := 7, holdRetryLimit := 1 }
  holdState := .active

/-- A SELECT lane, OPEN and IDLE. -/
def lane0 : Lane := { configured := true, divider := 1, recoveryTime := 100, autoResume := true, gate := .opened }

/-- The same lane with a transaction. -/
def lane1 : Lane := { lane0 with activity := .busy }

/-- An ADDRESSED lane with a transaction. -/
def lane2 : Lane := { lane1 with mode := .addressed }

def record0 : InFlight :=
  { kind := .duty 3, target := 1, attempt := 1, forcedMark := false, issueEpoch := 990, deadline := 1010 }

/-- The record in RESPONSE with a status and data. -/
def answered (v : Byte) (bytes : List Byte) : InFlight := { record0 with status := some v, data := bytes, phase := .response }

/-- Duty 3 idle on an idle lane. -/
def quietState : State := small 1000 duty0 target0 lane0 none

/-- Duty 3 in flight, in REQUEST. -/
def requestState : State := small 1000 duty1 target0 lane1 (some record0)

/-- Duty 3 in flight on an ADDRESSED lane. -/
def addressedState : State := small 1000 duty1 target0 lane2 (some record0)

/-- Duty 3 in flight with this answer. -/
def answerState (v : Byte) (bytes : List Byte) : State := small 1000 duty1 target0 lane1 (some (answered v bytes))

/-- A duty in a state other than RUNNING, with nothing pending. -/
def inState (st : DutyState) : Duty := { duty0 with state := st, nextBoundary := none }

-- The codes of COMMAND

/-- Example 10-1: the staging words of duty 5. -/
def example10 : State :=
  stage [(0, 0x0205), (1, 0x0030), (6, 0x1000), (15, 0x03E8), (17, 0x3212), (18, 0x0001)]
    (State.reset.setTarget 2 { target0 with defn := { target0.defn with address := 4 } })

theorem test_defineDuty :
    ((after .defineDuty example10).duty 5).defn =
        { target := 2, actionCode := 0x30, interval := 1000, deferLimit := 2, advanceLimit := 1, initialOwed := some 1
          retryLimit := 2, busyLimit := 3 } ∧
      ((after .defineDuty example10).duty 5).state = .stopped ∧ (after .defineDuty example10).port.result = .done := by
  decide +kernel

/-- Every word of DEFINE DUTY, with three Payload bytes and two of the Expected value and the Mask. -/
theorem test_defineDuty_words :
    ((after .defineDuty (stage
        [(0, 0x0205), (1, 0x0330), (2, 0xBBAA), (3, 0xDDCC), (6, 0x6F02), (7, 0x2211), (8, 0x4433), (11, 0x0FF0), (15, 0x0007),
          (16, 0x0812), (17, 0x4321), (19, 0x0FFF), (20, 1), (21, 2), (22, 3), (23, 2), (24, 2), (25, 3)] example10)).duty
        5).defn =
      { target := 2, actionCode := 0x30, payload := [0xAA, 0xBB, 0xCC], readbackLength := 2, compare := true
        expected := some [0x11, 0x22], mask := some [0xF0, 0x0F], interval := 0x120007, deferLimit := 1, advanceLimit := 2
        initialOwed := none, retryLimit := 3, busyLimit := 4, quietTime := 4095, shareGroup := 8, advancePermitted := true
        settleSafe := true, haltOnDeviation := true, startTime := some 0x000300020001, stopTime := some 0x000300020002 } := by
  decide +kernel

/-- Example 10-1: an Initial owed of -1 with A = 0 is refused with FIELD. -/
theorem test_defineDuty_field :
    (after .defineDuty (stage [(17, 0x3202), (18, 0xFFFF)] example10)).port.result = .field := by decide +kernel

theorem test_startDuty :
    ((after .startDuty (stage [(0, 3)] (small 1000 (inState .stopped) target0 lane0 none))).duty 3).owed = 1 ∧
      ((after .startDuty (stage [(0, 3)] (small 1000 (inState .stopped) target0 lane0 none))).duty 3).nextBoundary =
        some 1100 ∧
      ((after .startDuty (stage [(0, 3)] (small 1000 (inState .stopped) target0 lane0 none))).duty 3).inFlight = true := by
  decide +kernel

theorem test_stopDuty :
    ((after .stopDuty (stage [(0, 3)] quietState)).duty 3).state = .stopped ∧
      ((after .stopDuty (stage [(0, 3)] quietState)).duty 3).nextBoundary = none := by decide +kernel

theorem test_retireDuty :
    ((after .retireDuty (stage [(0, 3)] quietState)).duty 3) = {} ∧
      (after .retireDuty (stage [(0, 3)] requestState)).port.state = .working := by decide +kernel

theorem test_reviveDuty :
    ((after .reviveDuty (stage [(0, 3)] (small 1000 (inState .faulted) target0 lane1 none))).duty 3).nextBoundary =
      some 1100 := by decide +kernel

/-- SET OWED of -1, written 0xFFFF, and a value above D + 1. -/
theorem test_setOwed :
    ((after .setOwed (stage [(0, 3), (1, 0xFFFF)] quietState)).duty 3).owed = -1 ∧
      (after .setOwed (stage [(0, 3), (1, 4)] quietState)).port.result = .field := by decide +kernel

theorem test_prodDuty :
    ((after .prodDuty (stage [(0, 3)] quietState)).record 0).map (·.forcedMark) = some true := by decide +kernel

theorem test_snapshotDuty :
    (after .snapshotDuty (stage [(0, 3)] quietState)).busReads 0x28 = 0x0301 ∧
      (after .snapshotDuty (stage [(0, 3)] quietState)).busReads 0x29 = 0x0403 ∧
      (after .snapshotDuty (stage [(0, 3)] quietState)).busReads 0x2C = 0x0201 := by decide +kernel

/-- Target 9 at Address 0x2C of an ADDRESSED lane; 0x78 does not suit it. -/
theorem test_defineTarget :
    ((after .defineTarget (stage [(0, 9), (1, 0x012C), (2, 0x3214), (3, 0x0240), (4, 0xBBAA)]
        (small 0 {} target0 lane2 none))).target 9).defn =
        { lane := 0, address := 0x2C, holdRetryLimit := 1, responseTimeout := 20, busyBackoff := 50, entryCode := 0x40
          entryPayload := [0xAA, 0xBB] } ∧
      (after .defineTarget (stage [(0, 9), (1, 0x0178), (2, 0x3214)] (small 0 {} target0 lane2 none))).port.result =
        .field := by decide +kernel

theorem test_dropTarget :
    ((after .dropTarget (stage [(0, 1)] (small 0 {} target0 lane0 none))).target 1) = {} ∧
      (after .dropTarget (stage [(0, 1)] quietState)).port.result = .inUse := by decide +kernel

theorem test_holdTarget :
    ((after .holdTarget (stage [(0, 1)] quietState)).target 1).holdTransaction = .entryInFlight ∧
      ((after .holdTarget (stage [(0, 1)] quietState)).record 0).map (·.kind) = some .holdEntry := by decide +kernel

theorem test_releaseTarget :
    ((after .releaseTarget (stage [(0, 1)]
        (small 1000 {} { target0 with holdState := .held, heldSince := some 998 } lane0 none))).target 1).deadline =
      some 1003 := by decide +kernel

theorem test_snapshotTarget :
    (after .snapshotTarget (stage [(0, 1)] quietState)).busReads 0x2A = 0x0300 ∧
      (after .snapshotTarget (stage [(0, 1)] quietState)).busReads 0x36 = 0x0001 := by decide +kernel

theorem test_configureLane :
    ((after .configureLane (stage [(0, 2), (1, 0x000C), (2, 0x0A07)] State.reset)).lane 2).pins.clk = .high ∧
      ((after .configureLane (stage [(0, 2), (1, 0x000C), (2, 0x0A07)] State.reset)).lane 2).divider = 7 := by
  decide +kernel

theorem test_openLane :
    ((after .openLane (stage [] (small 0 {} {} { lane0 with gate := .closed, integrityCount := 3 } none))).lane 0).gate =
        .opened ∧
      (after .openLane State.reset).port.result = .state := by decide +kernel

theorem test_closeLane :
    ((after .closeLane requestState).duty 3).lastOutcome = .abandoned ∧
      ((after .closeLane requestState).lane 0).gate = .closed := by decide +kernel

theorem test_blackoutLane :
    ((after .blackoutLane (stage [(1, 50), (2, 1)] quietState)).lane 0).blackoutEnd = some 1050 := by decide +kernel

theorem test_resumeLane :
    ((after .resumeLane (small 0 {} {} { lane0 with gate := .blackout, blackoutEnd := some 9 } none)).lane 0).gate =
      .opened := by decide +kernel

theorem test_clearSuspect :
    ((after .clearSuspect (small 0 {} {} { lane0 with gate := .suspect, integrityCount := 3, latched := true } none)).lane
      0) = lane0 := by decide +kernel

theorem test_abort : (after .abort quietState).port.result = .tooLate ∧ (after .abort quietState).port.code = 0x30 := by
  decide +kernel

/-- Example 8-2, with one exit in flight: its STRANDED incident is numbered 0. A blackout with Yield ends. -/
theorem test_schedulerReset :
    (after .schedulerReset (small 1000 {} { target0 with holdState := .leaving, holdTransaction := .exitInFlight } lane1
        (some { record0 with kind := .holdExit }))).inc.queue =
      [{ sequence := 0, kind := .stranded, reason := some .abandoned, epoch := 1000, lane := 0, target := 1
         attempt := some 1 }] ∧
      ((after .schedulerReset (small 0 {} {} { lane0 with gate := .blackout, blackoutEnd := some 9, yielding := true }
        none)).lane 0).yielding = false := by decide +kernel

theorem test_unknownCode : (after (.unknownCode 0x32) quietState).port.result = .unknown := by decide +kernel

theorem test_commandDiscarded :
    (after (.commandDiscarded 0x04) { quietState with port := { quietState.port with state := .working } }).port.collision =
      true := by decide +kernel

-- The other register accesses

theorem test_portClear :
    (after (.portClear 9) { quietState with port := { quietState.port with collision := true } }).port.collision = false := by
  decide +kernel

/-- PORT_STATUS: WORKING, Collision, UNKNOWN, Current code 0x7F. -/
theorem test_portStatus :
    ({ quietState with port := { state := .working, collision := true, result := .unknown, code := 0x7F } }).busReads 0x00 =
        0x7F93 ∧
      State.reset.busReads 0x00 = 0x0000 := by decide +kernel

/-- Example 10-2: the DUTY-FAULTED record, Sequence 37. -/
def example10Incident : Incident :=
  { sequence := 37, kind := .dutyFaulted, reason := some .timeout, epoch := 70136, lane := 1, target := 7, duty := some 22
    attempt := some 2, status := some 0x00 }

theorem test_incidentWindow :
    (List.range 7).map (incidentWord example10Incident) = [0x4D21, 0x0025, 0x11F8, 0x0001, 0x0000, 0x1607, 0x0000] ∧
      incidentWord { kind := .overdue, epoch := 0, lane := 1, target := 7, duty := some 22 } 0 = 0x0504 := by decide +kernel

theorem test_incidentPop :
    (after (.incidentPop 0) { quietState with inc := IncidentUnit.pass {} example10Incident }).inc.queue = [] ∧
      (after (.incidentPop 0) quietState).inc = {} := by decide +kernel

/-- A clearing write leaves INCIDENT set and clears what is written 1. -/
theorem test_eventSummaryWrite :
    (after (.eventSummaryWrite 0x0005)
      { quietState with inc := (IncidentUnit.pass {} example10Incident).setCommand.setLane }).inc.summary.toWord = 0x0009 := by
  decide +kernel

theorem test_eventEnableWrite :
    (after (.eventEnableWrite 0xFF01) { quietState with inc := IncidentUnit.pass {} example10Incident }).inc.irq = true ∧
      (after (.eventEnableWrite 0xFF04) quietState).busReads 0x49 = 0x0004 := by decide +kernel

/-- Values above +1023 and below -1024 are held at the bounds (R145). -/
theorem test_trimValueWrite :
    (after (.trimValueWrite 0x0400) quietState).busReads 0x53 = 0x03FF ∧
      (after (.trimValueWrite 0x8000) quietState).busReads 0x53 = 0xFC00 := by decide +kernel

theorem test_trimWindowWrite :
    (after (.trimWindowWrite 2) quietState).busReads 0x54 = 2 ∧ (after (.trimWindowWrite 3) quietState).busReads 0x54 = 1 ∧
      (after (.trimWindowWrite 0xFFFC) quietState).time.writtenWindow = .w18 ∧
      (after (.trimWindowWrite 2) quietState).time.writtenWindow = .w22 := by decide +kernel

/-- Example 7-1: reading across a carry. -/
theorem test_epochLoRead :
    (after .epochLoRead { quietState with time := { epoch := 0x00000001FFFF } }).busRead = 0xFFFF ∧
      (after .epochLoRead { quietState with time := { epoch := 0x00000001FFFF } }).busReads 0x51 = 0x0001 := by decide +kernel

/-- Staging word 3 is at byte offset 0x16, word address 0x0B; offset 0x0E is unmapped. -/
theorem test_registerWrite :
    (after (.registerWrite 0x0B 0xBEEF) quietState).busReads 0x0B = 0xBEEF ∧
      after (.registerWrite 0x07 0xBEEF) quietState = quietState := by decide +kernel

-- Resets and the time base

theorem test_reset : after .reset requestState = { State.reset with time := requestState.time } := by decide +kernel

theorem test_powerOn : after .powerOn requestState = State.reset := by decide +kernel

theorem test_tickCompletion :
    (after .tickCompletion { quietState with time := { phase := 3, epoch := 7, adjustment := .remove } }).time =
      { phase := 0, epoch := 8, tickLength := 3, position := 1 } := by decide +kernel

/-- The worked figures after R144: trim +5 in 2^18 cycles gives parts of 52,428 cycles. -/
theorem test_windowStart :
    (after .windowStart { quietState with time := { position := 1048575, writtenWindow := .w18, writtenTrim := 5 } }).time =
      { phase := 1, windowInForce := .w18, writtenWindow := .w18, trimInForce := 5, writtenTrim := 5, partLength := 52428 } := by
  decide +kernel

/-- The last cycle of the second part, at window position 104,855. -/
theorem test_partEnd :
    (after .partEnd
      { quietState with
        time := { position := 104855, windowInForce := .w18, trimInForce := 5, partLength := 52428 } }).time.adjustment =
      .remove := by decide +kernel

/-- At a tick a lane that waits may read again, unless its clock line is held. -/
theorem test_tickCompletion_mark :
    ((after .tickCompletion { requestState with time := { phase := 3 } }).record 0).map (·.tickSinceRead) = some true ∧
      ((after .tickCompletion { small 0 duty1 target0 { lane2 with lineHeld := true } (some record0) with
        time := { phase := 3 } }).record 0).map (·.tickSinceRead) = some false := by decide +kernel

theorem test_refclkCycle : (after .refclkCycle quietState).time = { epoch := 1000, phase := 1, position := 1 } := by
  decide +kernel

-- Deadlines

theorem test_boundary :
    ((after (.boundary 3) { quietState with lanes := State.reset.lanes }).duty 3).owed = 1 ∧
      ((after (.boundary 3) { quietState with lanes := State.reset.lanes }).duty 3).nextBoundary = some 1100 ∧
      (after (.boundary 3) { quietState with lanes := State.reset.lanes }).list 0 = [3] := by decide +kernel

/-- A boundary at D + 1 is a miss with its OVERDUE incident. -/
theorem test_boundary_miss :
    ((after (.boundary 3) (small 1000 { duty0 with owed := 3 } target0 {} none)).duty 3).misses = 1 ∧
      (after (.boundary 3) (small 1000 { duty0 with owed := 3 } target0 {} none)).inc.queue.map (·.kind) = [.overdue] := by
  decide +kernel

theorem test_startTime :
    ((after (.startTime 3) (small 1000 { inState .waiting with defn := { defn0 with startTime := some 999 } } target0 lane1
      none)).duty 3).state = .running := by decide +kernel

theorem test_stopTime :
    ((after (.stopTime 3) (small 1000 { duty0 with defn := { defn0 with stopTime := some 1000 } } target0 lane1 none)).duty
      3).state = .stopped := by decide +kernel

theorem test_backoffEnd :
    ((after (.backoffEnd 3) ((small 1000 { duty0 with owed := 1, ticket := true, backoffUntil := some 1000 } target0 lane0
      none).setList 0 [3])).record 0).map (·.deadline) = some 1020 := by decide +kernel

theorem test_responseDeadline :
    ((after (.responseDeadline 0) (small 1010 duty1 target0 lane1 (some { record0 with phase := .wait }))).duty 3).attempts =
        1 ∧
      ((after (.responseDeadline 0) (small 1010 duty1 target0 lane1 (some record0))).record 0).map (·.deadlinePassed) =
        some true := by decide +kernel

theorem test_quietEnd :
    (after (.quietEnd 0) ((small 1000 {} {} { lane0 with activity := .quiet, quietEnd := some 1000, quietLock := some (1, 3) }
      none).setLock 1 (some 3))).lock 1 = none := by decide +kernel

theorem test_blackoutEnd :
    ((after (.blackoutEnd 0) (small 1000 {} {} { lane0 with gate := .blackout, blackoutEnd := some 1000 } none)).lane 0) =
      lane0 := by decide +kernel

/-- LANE_STATUS after an auto-resume with a count of 2: OPEN, IDLE, CONFIGURED. -/
theorem test_autoResume :
    (after (.autoResume 0) (small 1000 {} {} { lane0 with gate := .suspect, integrityCount := 2, recoveryEnd := some 1000 }
      none)).busReads 0x58 = 0x00A1 := by decide +kernel

theorem test_minimumHoldEnd :
    ((after (.minimumHoldEnd 1) (small 1000 {}
      { target0 with
        holdState := .leaving, holdTransaction := .exitPending, deadlineKind := .minimum, deadline := some 1000 }
      lane0 none)).target 1).holdTransaction = .exitInFlight := by decide +kernel

theorem test_maximumHoldEnd :
    (after (.maximumHoldEnd 1) (small 1000 {}
      { target0 with holdState := .held, heldSince := some 872, deadlineKind := .maximum, deadline := some 1000 }
      lane1 none)).inc.queue.map (·.kind) = [.holdExpired] := by decide +kernel

theorem test_settleEnd :
    ((after (.settleEnd 1) (small 1000 {}
      { target0 with holdState := .settling, deadlineKind := .settle, deadline := some 1000 } lane1 none)).target 1) =
      target0 := by decide +kernel

-- Frames

/-- Table 6-3. -/
theorem test_checkOf :
    checkOf [0x61] = 0xD3 ∧ checkOf [0x61, 0x5A] = 0xB6 ∧ requestBytes 0x21 [0x05] = [0x21, 0x05, 0x77] := by decide +kernel

/-- Example 6-1: the address bytes of Address 0x2C. -/
theorem test_addressByte : addressByte 0x2C false = 0x58 ∧ addressByte 0x2C true = 0x59 ∧ bitTimeCycles 99 = 200 := by
  decide +kernel

theorem test_statusRead :
    ((after (.statusRead 0 0x61) requestState).record 0).map (·.phase) = some .response ∧
      ((after (.statusRead 0 0xFF) requestState).duty 3).lastOutcome = .noAnswer := by decide +kernel

theorem test_dataByte :
    ((after (.dataByte 0 0x5A) (answerState 0x61 [])).record 0).map (·.data) = some [0x5A] := by decide +kernel

/-- Example 6-1: 0xB6 matches and the outcome is CREDITED; 0xB7 is INTEGRITY and suspends the lane. -/
theorem test_checkByte :
    ((after (.checkByte 0 0xB6) (answerState 0x61 [0x5A])).duty 3).completions = 1 ∧
      ((after (.checkByte 0 0xB7) (answerState 0x61 [0x5A])).lane 0).gate = .suspect := by decide +kernel

theorem test_addressNotAcknowledged :
    ((after (.addressNotAcknowledged 0) addressedState).duty 3).lastOutcome = .noAnswer := by decide +kernel

theorem test_requestByteRefused :
    ((after (.requestByteRefused 0) addressedState).duty 3).lastOutcome = .rejected := by decide +kernel

theorem test_clockLineHold :
    ((after (.clockLineHold 0) addressedState).lane 0).lineHeld = true ∧
      ((after (.clockLineHold 0) { addressedState with time := { epoch := 1010 } }).duty 3).lastOutcome = .timeout := by
  decide +kernel

theorem test_clockLineRelease :
    ((after (.clockLineRelease 0) (small 0 {} {} { lane2 with
        activity := .idle, lineHeld := true, stopWaiting := true, pins := { dout := .low } } none)).lane 0).pins =
      { clk := .released, dout := .released, sel := 0xFF, pullUp := false } := by decide +kernel

/-- The pins at an issue: the select line of Address 3 low, and, behind a stop that waits, the pins of that stop (R132, R139). -/
theorem test_issue_pins :
    ((quietState.issue 0 (.duty 3)).lane 0).pins = { clk := .low, dout := .high, sel := 0xF7, pullUp := true } ∧
      (((small 1000 duty0 target0 { lane2 with stopWaiting := true, pins := { dout := .low } } none).issue 0
        (.duty 3)).lane 0).pins = { dout := .low } := by decide +kernel

-- The link: Example 6-1 on both modes

/-- A symbol as a number: a bit is itself, an idle bit time 2, the target's acknowledge 3, a sample 4, the part's acknowledge and
its absence 5 and 6, a start, repeated start and stop 7, 8 and 9, a select line n asserted 10 + n, deasserted 20 + n. -/
def symbolNumber : Symbol → Nat
  | .bit b => if b then 1 else 0
  | .idleBit => 2
  | .ackSlot => 3
  | .sample => 4
  | .ack => 5
  | .nack => 6
  | .start => 7
  | .repeatedStart => 8
  | .stop => 9
  | .selectLow n => 10 + n
  | .selectHigh n => 20 + n

/-- What the part sends, in numbers. -/
def sent (c : Instr) (s : State) : List (List Nat) := (s.sends c).map (·.map symbolNumber)

/-- The record of Example 6-1 in WAIT, a tick after a PENDING. -/
def waited : InFlight := { record0 with status := some 0x00, phase := .wait, tickSinceRead := true }

/-- Its target on an ADDRESSED lane, with Address 0x2C. -/
def target2C : Target := { target0 with defn := { target0.defn with address := 0x2C } }

/-- The request 0x21, 0x05, 0x77 and the first status read, a repeated read of PENDING, the last status read, the data byte and
the check byte. -/
theorem test_link_select :
    sent (.statusRead 0 0x00) requestState =
        [[13, 2, 0, 0, 1, 0, 0, 0, 0, 1, 0, 0, 0, 0, 0, 1, 0, 1, 0, 1, 1, 1, 0, 1, 1, 1, 4, 4, 4, 4, 4, 4, 4, 4]] ∧
      sent (.statusRead 0 0x00) (small 1000 duty1 target0 lane1 (some waited)) = [[4, 4, 4, 4, 4, 4, 4, 4]] ∧
      sent (.statusRead 0 0x61) (small 1000 duty1 target0 lane1 (some waited)) = [[4, 4, 4, 4, 4, 4, 4, 4]] ∧
      sent (.dataByte 0 0x5A) (answerState 0x61 []) = [[4, 4, 4, 4, 4, 4, 4, 4]] ∧
      sent (.checkByte 0 0xB6) (answerState 0x61 [0x5A]) = [[4, 4, 4, 4, 4, 4, 4, 4, 23, 2]] := by decide +kernel

/-- The same on an ADDRESSED lane: the address bytes are 0x58 and 0x59. -/
theorem test_link_addressed :
    sent (.statusRead 0 0x00) (small 1000 duty1 target2C lane2 (some record0)) =
        [[7, 0, 1, 0, 1, 1, 0, 0, 0, 3, 0, 0, 1, 0, 0, 0, 0, 1, 3, 0, 0, 0, 0, 0, 1, 0, 1, 3, 0, 1, 1, 1, 0, 1, 1, 1, 3,
          8, 0, 1, 0, 1, 1, 0, 0, 1, 3, 4, 4, 4, 4, 4, 4, 4, 4, 6]] ∧
      sent (.statusRead 0 0x61) (small 1000 duty1 target2C lane2 (some waited)) =
        [[9, 2, 7, 0, 1, 0, 1, 1, 0, 0, 1, 3, 4, 4, 4, 4, 4, 4, 4, 4, 5]] ∧
      sent (.dataByte 0 0x5A) (small 1000 duty1 target2C lane2 (some (answered 0x61 []))) = [[4, 4, 4, 4, 4, 4, 4, 4, 5]] ∧
      sent (.checkByte 0 0xB6) (small 1000 duty1 target2C lane2 (some (answered 0x61 [0x5A]))) =
        [[4, 4, 4, 4, 4, 4, 4, 4, 6, 9, 2]] := by decide +kernel

/-- The status 0x61 sampled in the Bit order of a SELECT lane, each way, and on an ADDRESSED lane, and the rows that report what is
sampled: a status byte, a data byte and a check byte; before a tick no read is begun (R70, R132 to R134). -/
theorem test_link_read :
    let bits := [false, true, true, false, false, false, false, true]
    (lane1.byteRead bits = 0x61 ∧ Lane.byteRead { lane1 with bitOrder := .lsbFirst } bits.reverse = 0x61 ∧
        Lane.byteRead { lane1 with bitOrder := .lsbFirst } bits = 0x86 ∧
        Lane.byteRead { lane2 with bitOrder := .lsbFirst } bits = 0x61) ∧
      requestState.reportOf 0 bits = some (.statusRead 0 0x61) ∧
      (answerState 0x61 []).reportOf 0 bits = some (.dataByte 0 0x61) ∧
      (answerState 0x61 [0x5A]).reportOf 0 bits = some (.checkByte 0 0x61) ∧
      (small 1000 duty1 target0 lane1 (some { waited with tickSinceRead := false })).reportOf 0 bits = none ∧
      quietState.reportOf 0 bits = none := by decide +kernel

/-- A TIMEOUT of a lane that waits between two reads gives the stop of its PENDING and no other, deasserts the select line of a
SELECT lane, and under a held clock line leaves its stop to the release. -/
theorem test_link_timeout :
    sent (.responseDeadline 0) (small 1010 duty1 target2C lane2 (some { waited with tickSinceRead := false })) = [[9, 2]] ∧
      sent (.responseDeadline 0) (small 1010 duty1 target0 lane1 (some { waited with tickSinceRead := false })) = [[23, 2]] ∧
      sent (.responseDeadline 0) (small 1010 duty1 target2C { lane2 with lineHeld := true } (some (answered 0x61 []))) =
        [[], [4], [4, 4], [4, 4, 4], [4, 4, 4, 4], [4, 4, 4, 4, 4], [4, 4, 4, 4, 4, 4], [4, 4, 4, 4, 4, 4, 4],
          [4, 4, 4, 4, 4, 4, 4, 4]] ∧
      sent (.clockLineRelease 0) (small 0 {} {} { lane2 with lineHeld := true, stopWaiting := true } none) = [[9, 2]] := by
  decide +kernel

/-- The stop of a PENDING whose transaction a held clock line lets time out is given once, at the release, and RESET and CLOSE
LANE under the hold form none (R136, R139, R140). -/
theorem test_link_pending_stop :
    let s := small 1010 duty1 target2C lane2 (some record0)
    let u := after (.clockLineHold 0) (after (.statusRead 0 0x00) s)
    let w := after (.responseDeadline 0) u
    (sent (.statusRead 0 0x00) s).map (·.count 9) = [0] ∧ sent (.clockLineHold 0) (after (.statusRead 0 0x00) s) = [[]] ∧
      sent (.responseDeadline 0) u = [[]] ∧ sent (.clockLineRelease 0) w = [[9, 2]] ∧
      sent (.clockLineRelease 0) (after (.clockLineRelease 0) w) = [[]] ∧ u.sentAbandoned 0 = [[]] ∧
      u.sentAtRelease 0 = [[]] := by decide +kernel

/-- A CLOSE LANE cuts a byte off where it stands and deasserts the select line; with nothing in flight it sends nothing. -/
theorem test_link_abandoned :
    ((answerState 0x61 [0x5A]).sentAbandoned 0).map (·.map symbolNumber) =
        [[23, 2], [4, 23, 2], [4, 4, 23, 2], [4, 4, 4, 23, 2], [4, 4, 4, 4, 23, 2], [4, 4, 4, 4, 4, 23, 2],
          [4, 4, 4, 4, 4, 4, 23, 2], [4, 4, 4, 4, 4, 4, 4, 23, 2], [4, 4, 4, 4, 4, 4, 4, 4, 23, 2]] ∧
      quietState.sentAbandoned 0 = [[]] := by decide +kernel

/-- A start is a fall and a stop a rise of the data line while the clock line is high (R134). A stop that waits stands at its
third step (R139). -/
theorem test_levels :
    Symbol.start.addressedLevels.take 2 = [(.released, .released), (.released, .low)] ∧
      Symbol.stop.addressedLevels = [(.low, .released), (.low, .low), (.released, .low), (.released, .released)] ∧
      (let p := (Lane.endFrame { lane2 with lineHeld := true }).pins; (p.clk, p.dout)) = (.released, .low) ∧
      (Symbol.bit false).addressedLevels = [(.low, .low), (.released, .low)] ∧
      (Symbol.bit true).selectLevels .low .high = [(.low, .high), (.high, .high)] := by decide +kernel

-- For every statement with hypotheses, states that meet them, clause by clause

/-- A port that waits for the RETIRE DUTY of duty 3, whose answer is in. -/
def workingState (x : Duty) : State :=
  { small 1000 { x with state := .stopped, retirePending := true, nextBoundary := none } target0 lane1
      (some (answered 0x63 [])) with
    port := { state := .working, latched := Vector.replicate 32 3 } }

theorem witness_StepRunsFrontCommand :
    ({ State.reset with pending := [Instr.abort] }).pending = Instr.abort :: [] ∧ State.reset.pending = [] := ⟨rfl, rfl⟩

/-- Rows of events that are not due: times absent and times ahead, states that they do not concern, a lane without a transaction
and one whose clock line is held, a status read before the next tick, and bytes that are not awaited. -/
theorem witness_EveryCommandAnswersNext :
    let g := fun k e => small 1000 {} { target0 with holdState := .settling, deadlineKind := k, deadline := e } lane0 none
    let held := small 1000 duty1 target0 { lane2 with lineHeld := true } (some record0)
    (quietState.accrues 0 = false ∧ (quietState.duty 3).nextBoundary = some 1000 ∧ (1000 : Epoch).toNat < (1001 : Epoch).toNat ∧
        (quietState.duty 3).state ≠ .waiting ∧ (quietState.duty 3).defn.stopTime = none ∧
        (quietState.duty 3).backoffUntil = none ∧ (inState .stopped).state = .stopped) ∧
      (quietState.record 0 = none ∧ (requestState.now.toNat < record0.deadline.toNat) ∧
        (quietState.lane 0).activity ≠ .quiet ∧ (quietState.lane 0).gate ≠ .blackout ∧ (quietState.lane 0).gate ≠ .suspect) ∧
      ((quietState.target 1).holdState ≠ .leaving ∧ ((g .settle (some 1001)).target 1).deadline = some 1001 ∧
        ((g .minimum none).target 1).deadlineKind ≠ .maximum) ∧
      ((held.lane 0).clockHeld = true ∧ held.record 0 = some record0) ∧
      ((answered 0x61 []).phase = .response ∧ { waited with tickSinceRead := false }.phase = .wait ∧
        (answerState 0x61 [0x5A]).expectedData (answered 0x61 [0x5A]) = 1 ∧ record0.phase ≠ .response ∧
        (requestState.lane 0).mode = .select) ∧
      quietState.time.phase + 1 < quietState.time.tickLength ∧
      quietState.time.position + 1 < quietState.time.windowInForce.cycles ∧ quietState.time.endsPart = false := by
  decide +kernel

/-- A Stop time of a STOPPED duty (R12), a status byte after the outcome (R72), and the end of a blackout that a new one replaced
(R122) change nothing. -/
theorem test_events_not_due :
    let b := small 1000 {} {} { lane0 with gate := .blackout, blackoutEnd := some 1050 } none
    after (.stopTime 3) (small 1000 { inState .stopped with defn := { defn0 with stopTime := some 9 } } target0 lane0 none) =
        small 1000 { inState .stopped with defn := { defn0 with stopTime := some 9 } } target0 lane0 none ∧
      after (.statusRead 0 0x61) quietState = quietState ∧ after (.blackoutEnd 0) b = b := by decide +kernel

theorem witness_WorkingDiscardsCodes :
    (codeOf .stopDuty = some 0x03 ∧ (workingState duty1).port.state = .working) ∧ commandOfCode 0x32 = none ∧
      (∃ t, exec .abort (workingState duty1) = .next t) ∧ ∃ t, exec .schedulerReset (workingState duty1) = .next t :=
  ⟨by decide +kernel, by decide +kernel, ⟨_, rfl⟩, ⟨_, rfl⟩⟩

theorem witness_ReadyTakesACode :
    (codeOf .stopDuty = some 0x03 ∧ State.reset.port.state = .ready ∧
        exec .stopDuty State.reset = .next (after .stopDuty State.reset)) ∧
      ((after .stopDuty State.reset).port.state = .ready ∧ (after .stopDuty State.reset).port.result = .state) ∧
      commandOfCode 0xFF = none :=
  ⟨⟨by decide +kernel, rfl, rfl⟩, by decide +kernel, by decide +kernel⟩

theorem witness_AbortInReadyIsTooLate : State.reset.port.state = .ready := rfl

theorem witness_RefusalsByNumberAndState :
    stagedIndex (stage [(0, 64)] State.reset).port.staging = 64 ∧ stagedIndex (stage [(0, 32)] State.reset).port.staging = 32 ∧
      stagedIndex (stage [(0, 4)] State.reset).port.staging = 4 ∧ stagedIndex (stage [(0, 63)] State.reset).port.staging = 63 ∧
      (State.reset.duty 63).state = .vacant ∧ (State.reset.target 0).holdState = .undefined ∧
      (State.reset.lane 0).gate = .closed ∧ stagedIndex State.reset.port.staging = 0 ∧
      stagedIndex (stage [(0, 3)] quietState).port.staging = 3 ∧ (quietState.duty 3).state = .running ∧
      stagedIndex (stage [(0, 1)] quietState).port.staging = 1 ∧
      ((small 0 {} { target0 with holdState := .leaving } lane0 none).target 1).holdState = .leaving ∧
      (quietState.lane 0).gate = .opened := by decide +kernel

/-- What each of the three commands with a layout of its own reads is laid out as Table 10-5 has it, whatever is staged. -/
theorem witness_Refusals_laidOut (v : Vector Word 32) :
    (dutyStaging v).laidOut v ∧ (targetStaging v).laidOut v ∧ (laneStaging v).laidOut v :=
  ⟨dutyStaging_laidOut v, targetStaging_laidOut v, laneStaging_laidOut v⟩

/-- One field of Example 10-1 beyond its range: each is refused with FIELD. -/
theorem witness_Refusals_defineDuty :
    (∀ p ∈ [(1, (0x0930 : Word)), (6, 0x1009), (15, 15), (18, 4), (18, 0xFFFE), (17, 0x3412), (17, 0x0212), (19, 4096),
        (16, 0x0900), (6, 0x1100), (6, 0x7000), (0, 0x2005), (0, 0x0305)],
        (after .defineDuty (stage [p] example10)).port.result = .field) ∧
      (dutyStaging (stage [(1, 0x0930)] example10).port.staging).payloadLength = 9 ∧
      (dutyStaging (stage [(15, 15)] example10).port.staging).interval = 15 ∧
      (dutyStaging (stage [(18, 0xFFFE)] example10).port.staging).initialOwed = some (-2) ∧
      (dutyStaging (stage [(0, 0x2005)] example10).port.staging).target = 32 ∧ (example10.target 3).holdState = .undefined ∧
      (example10.duty 5).state = .vacant ∧ example10.port.state = .ready ∧
      (after .defineDuty (stage [(0, 3)] (small 0 { duty1 with state := .stopped } {} {} none))).port.result = .state := by
  decide +kernel

/-- A Stop time that is reached, and a Start time that is not before it. -/
theorem witness_Refusals_startDuty :
    let x : Duty := { inState .stopped with defn := { defn0 with stopTime := some 1001 } }
    let s := stage [(0, 3), (1, 1), (2, 1001)] (small 1000 x target0 lane0 none)
    (s.port.state = .ready ∧ stagedIndex s.port.staging = 3 ∧ (s.duty 3).state = .stopped ∧ (s.duty 3).inFlight = false ∧
        stagedStartTime s.port.staging = some 1001 ∧ (s.duty 3).defn.stopTime = some 1001) ∧
      (after .startDuty s).port.result = .field ∧
      (after .startDuty (stage [(0, 3)] (small 1001 x target0 lane0 none))).port.result = .field := by decide +kernel

/-- DEFINE TARGET of target 9 that passes every check. -/
def target9State : State := stage [(0, 9), (1, 0x0307), (2, 0x0101), (3, 0x0440), (6, 0x0441)] quietState

/-- One parameter beyond its range, the Address of target 1, and target 1 in use. -/
theorem witness_Refusals_defineTarget :
    (target9State.port.state = .ready ∧ (targetStaging target9State.port.staging).index = 9 ∧
        (target9State.target 9).holdState = .undefined ∧ (after .defineTarget target9State).port.result = .done) ∧
      (∀ p ∈ [(0, (0x0409 : Word)), (0, 0x0109), (1, 0x0308), (1, 0x0407), (2, 0x0100), (2, 0x0001), (3, 0x0540),
        (6, 0x0541)], (after .defineTarget (stage [p] target9State)).port.result = .field) ∧
      (after .defineTarget (target9State.setLane 0 lane2)).port.result = .field ∧
      (after .defineTarget (stage [(1, 0x0378)] (target9State.setLane 0 lane2))).port.result = .field ∧
      (after .defineTarget (stage [(1, 0x0303)] target9State)).port.result = .duplicate ∧
      (after .defineTarget (stage [(0, 1)] target9State)).port.result = .inUse := by decide +kernel

/-- CONFIGURE LANE with another Mode under a target, with Divider 0 and with Recovery time 0; BLACKOUT LANE with length 0, and
with Yield and a pressed duty. -/
theorem witness_Refusals_lanes :
    let s := small 0 {} target0 { lane0 with gate := .closed } none
    let u := small 0 { duty0 with owed := 3 } target0 lane0 none
    ((s.lane 0).configured = true ∧ (s.lane 0).mode = .select ∧ (s.target 1).defn.lane = 0) ∧
      (after .configureLane (stage [(1, 1), (2, 0x0101)] s)).port.result = .inUse ∧
      (after .configureLane (stage [(2, 0x0100)] s)).port.result = .field ∧
      (after .configureLane (stage [(2, 0x0001)] s)).port.result = .field ∧
      (after .blackoutLane (stage [(2, 1)] quietState)).port.result = .field ∧
      ((u.duty 3).state = .running ∧ u.laneOf 3 = 0 ∧ (u.duty 3).owed = (u.duty 3).defn.deferLimit + 1) ∧
      (after .blackoutLane (stage [(1, 9), (2, 1)] u)).port.result = .state := by decide +kernel

theorem witness_RetireVacatesOrWaits :
    (stagedIndex (stage [(0, 3)] quietState).port.staging = 3 ∧ ((stage [(0, 3)] quietState).duty 3).inFlight = false ∧
        ((stage [(0, 3)] quietState).duty 3).state = .running) ∧
      (((stage [(0, 3)] requestState).duty 3).inFlight = true ∧ ((stage [(0, 3)] requestState).duty 3).state = .running) ∧
      ((small 0 { duty1 with state := .stopped } {} {} none).duty 3).state = .stopped := by decide +kernel

/-- The transaction of duty 3 on lane 0, for which a RETIRE DUTY waits. -/
theorem retires_small (x : Duty) (z : Lane) (r : InFlight) (now : Epoch) (hk : r.kind = .duty 3)
    (hd : x.defn.target = 1) (hp : x.retirePending = true) : (small now x target0 z (some r)).retires 0 r 3 := by
  refine ⟨by simp [small, State.record, State.setRecord], hk, ?_, ?_⟩
  · simp [small, State.laneOf, State.targetOf, State.duty, State.target, State.setDuty, State.setTarget, State.setLane,
      State.setRecord, hd, target0]
  · simpa [small, State.duty, State.setDuty, State.setTarget, State.setLane, State.setRecord] using hp

/-- Duty 3, for which a RETIRE DUTY waits. -/
def retiring : Duty := { duty1 with state := .stopped, retirePending := true, nextBoundary := none }

/-- Any record of duty 3 on any lane, among them: a check byte good, with data that pass and that do not, and bad; a deadline
reached in WAIT, and in RESPONSE under a held clock line; every status read that ends a frame; the reports of an ADDRESSED
lane. -/
theorem witness_WaitingRetireEnds :
    (∀ z r now, r.kind = .duty 3 → (small now retiring target0 z (some r)).retires 0 r 3) ∧
      (lane1.clockHeld = false ∧ lane1.mode = .select ∧ lane2.clockHeld = false ∧ lane2.mode = .addressed ∧
        lane2.configured = true ∧ Lane.clockHeld { lane2 with lineHeld := true } = true) ∧
      ((answered 0x63 []).phase = .response ∧
        (small 1000 retiring target0 lane1 (some (answered 0x63 []))).expectedData (answered 0x63 []) = 0 ∧
        checkOf [0x63] = 0xDD ∧ checkOf [0x63] ≠ 0x00) ∧
      (matchesUnder [0x12] [0x0F] [0xF2] ∧ ¬matchesUnder [0x12] [0x0F] [0x13]) ∧
      (record0.deadline = 1010 ∧ record0.phase = .request ∧ waited.phase = .wait ∧ waited.tickSinceRead = true ∧
        InFlight.deadlinePassed { record0 with deadlinePassed := true } = true) ∧
      (workingState duty1).port.state = .working ∧ (workingState duty1).waitingDuty = 3 :=
  ⟨fun _ _ _ h => retires_small _ _ _ _ h rfl rfl, by decide +kernel, by decide +kernel,
    ⟨by rw [← equalUnderMask_iff]; decide +kernel, by rw [← equalUnderMask_iff]; decide +kernel⟩, by decide +kernel,
    by decide +kernel⟩

/-- A retiring duty ends by its deadline, by an absent target, by a status that is none, and with deviating data: the result, the
gate and the incidents. -/
theorem test_retireEnds :
    ((after (.responseDeadline 0) (small 1010 retiring target0 lane1 (some waited))).port.result,
        (after (.responseDeadline 0) (small 1010 retiring target0 lane1 (some waited))).inc.queue.length) = (.done, 0) ∧
      ((after (.addressNotAcknowledged 0) (small 1000 retiring target0 lane2 (some record0))).duty 3).state = .vacant ∧
      ((after (.statusRead 0 0x17) (small 1000 retiring target0 lane1 (some record0))).lane 0).gate = .suspect ∧
      (after (.statusRead 0 0x17) (small 1000 retiring target0 lane1 (some record0))).inc.queue.map (·.kind) = [.integrity] ∧
      (after (.checkByte 0 (checkOf [0x61, 0x13])) (small 1000
        { retiring with defn := { defn0 with compare := true, expected := some [0x12], mask := some [0x0F], quietTime := 9 } }
        target0 lane1 (some (answered 0x61 [0x13])))).inc.queue.map (·.kind) = [.deviation] := by decide +kernel

/-- A target with a hold transaction pending, in flight, and none. -/
def holdState (h : HoldState) (txn : HoldTransaction) : State :=
  small 1000 {} { target0 with holdState := h, holdTransaction := txn } lane0 none

theorem witness_SchedulerResetEmptiesTheSchedule :
    ((holdState .entering .entryInFlight).target 1).holdTransaction = .entryInFlight ∧
      (holdState .leaving .exitInFlight).holdsInFlight.length = 1 ∧
      (let counting := fun s : State => { s with inc := { s.inc with sequence := 40 } }
       (counting quietState).holdsInFlight = [] ∧ (after .schedulerReset (counting quietState)).inc.sequence = 0 ∧
         (after .schedulerReset (counting (holdState .leaving .exitInFlight))).inc.sequence = 1) ∧
      (((holdState .entering .entryPending).target 1).holdTransaction = .entryPending ∧
        ((holdState .entering .entryPending).target 1).holdState = .entering) ∧
      ((holdState .leaving .exitPending).target 1).holdState = .leaving := by decide +kernel

/-- The retired duty's Index is 3 in the latched parameters. -/
theorem witness_WaitingRetireEnds_index : stagedIndex (workingState duty1).port.latched = 3 := by decide +kernel

theorem witness_PortClearClearsCollision :
    (∃ t, exec .schedulerReset State.reset = .next t) ∧ (∃ t, exec .reset State.reset = .next t) ∧
      ∃ t, exec .powerOn State.reset = .next t := ⟨⟨_, rfl⟩, ⟨_, rfl⟩, ⟨_, rfl⟩⟩

/-- A queue with a record and an empty one. -/
theorem witness_IncidentRegisterWrites :
    (IncidentUnit.pass {} example10Incident).queue = [{ example10Incident with sequence := 0 }] ∧
      (let u : IncidentUnit := { queue := List.replicate 16 example10Incident, sequence := 40 }
       u.queue.length = 16 ∧ (u.pass example10Incident).queue = u.queue ∧ (u.pass example10Incident).sequence = 41 ∧
         (u.pass example10Incident).summary.overflow = true) ∧
      State.reset.inc.queue = [] ∧ State.reset.inc.queue.length ≤ 16 := by decide +kernel

/-- The head record of Example 10-2 with three data bytes, as the host reads it; beyond them 0. -/
theorem test_incidentWindow_read :
    let s : State := { quietState with inc := { queue := [{ example10Incident with data := some [1, 2, 3] }] } }
    (s.busReads 0x38 = 0x5D21 ∧ s.busReads 0x39 = 37 ∧ s.busReads 0x3E = 0x0300 ∧ s.busReads 0x3F = 0x0201 ∧
        s.busReads 0x40 = 0x0003 ∧ s.busReads 0x41 = 0) ∧
      s.busReads 0x46 = 1 ∧ quietState.busReads 0x38 = 0 := by decide +kernel

/-- The two bounds and the two values beyond them; the four codes of a window. -/
theorem witness_TrimWrites :
    (BitVec.ofNat 16 0x0400).toInt = 1024 ∧ (BitVec.ofNat 16 0xFBFF).toInt = -1025 ∧ (BitVec.ofNat 16 0xFC00).toInt = -1024 ∧
      (BitVec.ofNat 16 0x03FF).toInt = 1023 ∧ (BitVec.ofNat 16 7).toNat % 4 = 3 ∧ (BitVec.ofNat 16 2).toNat % 4 ≠ 3 ∧
      (BitVec.ofNat 16 0xFFFC).toNat % 4 = 0 ∧ (BitVec.ofNat 16 5).toNat % 4 = 1 ∧
      (∃ t, exec .reset State.reset = .next t) ∧ ∃ t, exec .schedulerReset State.reset = .next t :=
  ⟨by decide, by decide, by decide, by decide, by decide, by decide, by decide, by decide, ⟨_, rfl⟩, ⟨_, rfl⟩⟩

theorem witness_EpochReadIsWhole :
    (∃ t, exec .refclkCycle State.reset = .next t) ∧ ∃ t, exec .powerOn State.reset = .next t := ⟨⟨_, rfl⟩, ⟨_, rfl⟩⟩

theorem witness_RegisterWriteStoresStaging :
    (Instr.wf (.registerWrite 0x07 1) = true ∧ (0x07 : BitVec 7).toNat < 8) ∧ Instr.wf (.registerWrite 0x28 1) = true ∧
      0x27 < (0x28 : BitVec 7).toNat ∧ (0x47 : BitVec 7).toNat = 0x47 ∧ 0x5C ≤ (0x5C : BitVec 7).toNat := by decide +kernel

/-- A time base that meets its ranges. -/
theorem sound_of_fields {t : TimeBase} (h1 : t.tickLength = 4) (h2 : t.phase < 4) (h3 : t.position < t.windowInForce.cycles)
    (h4 : -1024 ≤ t.trimInForce ∧ t.trimInForce ≤ 1023) (h5 : -1024 ≤ t.writtenTrim ∧ t.writtenTrim ≤ 1023)
    (h6 : t.partLength = partLengthOf t.windowInForce t.trimInForce) : t.sound :=
  ⟨.inr (.inl h1), by rw [h1]; exact h2, h3, h4, h5, h6⟩

/-- The last cycle of a tick with an adjustment due, and the time base of the figures after R144 at the end of part 1 and at the
end of its window. -/
def timeAt (phase position : Nat) : TimeBase :=
  { phase := phase, position := position, windowInForce := .w18, trimInForce := 5, writtenTrim := -3, partLength := 52428
    adjustment := .insert }

theorem timeAt_sound (phase position : Nat) (h : phase < 4) (hp : position < 262144) : (timeAt phase position).sound :=
  sound_of_fields rfl h hp (show -1024 ≤ (5 : Int) ∧ (5 : Int) ≤ 1023 by decide)
    (show -1024 ≤ (-3 : Int) ∧ (-3 : Int) ≤ 1023 by decide) (show 52428 = partLengthOf .w18 5 by decide)

/-- In the middle of a tick, at its end with records of a free and of a held lane, and at the end of a window whose trim has no
end of a part there. -/
theorem witness_RefclkCycleCountsTicks :
    ((timeAt 0 9).sound ∧ (timeAt 0 9).endsPart = false ∧ (timeAt 0 9).phase + 1 < (timeAt 0 9).tickLength ∧
        (timeAt 0 9).position + 1 < (timeAt 0 9).windowInForce.cycles) ∧
      ((timeAt 3 9).sound ∧ (timeAt 3 9).endsPart = false ∧ (timeAt 3 9).phase + 1 = (timeAt 3 9).tickLength ∧
        (timeAt 3 9).adjustment = .insert) ∧
      ((timeAt 3 262143).sound ∧ (timeAt 3 262143).endsPart = false ∧
        (timeAt 3 262143).position + 1 = (timeAt 3 262143).windowInForce.cycles) ∧
      (requestState.record 0 = some record0 ∧ (requestState.lane 0).clockHeld = false ∧
        Lane.clockHeld { lane2 with lineHeld := true } = true) ∧
      ∃ t, exec .refclkCycle quietState = .next t :=
  ⟨⟨timeAt_sound 0 9 (by decide) (by decide), by decide +kernel⟩,
    ⟨timeAt_sound 3 9 (by decide) (by decide), by decide +kernel⟩,
    ⟨timeAt_sound 3 262143 (by decide) (by decide), by decide +kernel⟩, by decide +kernel, ⟨quietState.refclkCycle, rfl⟩⟩

/-- The last cycle of a window of four parts, which ends the fourth part too. -/
def fourParts : TimeBase :=
  { phase := 3, position := 262143, windowInForce := .w18, trimInForce := 4, partLength := 65536, writtenTrim := -3
    epoch := 7 }

/-- A part ends with the tick that goes on and with the one that completes, in its window and at its last cycle. -/
theorem test_partEnd_window :
    (after .partEnd { requestState with time := fourParts }).time =
        { phase := 0, tickLength := 3, epoch := 8, trimInForce := -3, writtenTrim := -3, partLength := 349525 } ∧
      ((after .partEnd { requestState with time := fourParts }).record 0).map (·.tickSinceRead) = some true ∧
      (after .partEnd { requestState with time := timeAt 2 52427 }).time =
        { timeAt 2 52427 with phase := 3, position := 52428, adjustment := .remove } := by decide +kernel

theorem witness_WindowStartAndPartEnd :
    ((timeAt 2 262143).sound ∧ (timeAt 2 262143).position + 1 = (timeAt 2 262143).windowInForce.cycles) ∧
      ((timeAt 2 52427).sound ∧ (timeAt 2 52427).position + 1 = 1 * (timeAt 2 52427).partLength) ∧
      ((timeAt 3 262139).sound ∧ (timeAt 3 262139).position + 1 = 5 * (timeAt 3 262139).partLength ∧
        5 ≤ (timeAt 3 262139).trimInForce.natAbs) ∧
      fourParts.sound ∧ fourParts.position + 1 = 4 * fourParts.partLength ∧
      fourParts.position + 1 = fourParts.windowInForce.cycles ∧ fourParts.phase + 1 = fourParts.tickLength :=
  ⟨⟨timeAt_sound _ _ (by decide) (by decide), by decide⟩, ⟨timeAt_sound _ _ (by decide) (by decide), by decide⟩,
    ⟨timeAt_sound _ _ (by decide) (by decide), by decide, by decide⟩,
    sound_of_fields rfl (by decide) (by decide) (by decide) (by decide) (by decide), by decide, by decide, by decide⟩

theorem witness_WindowHasOneEndForEachPart : (timeAt 0 0).sound ∧ (timeAt 0 0).trimInForce = 5 :=
  ⟨timeAt_sound _ _ (by decide) (by decide), rfl⟩

/-- Owed of `duty0` may be anything in -1..3. -/
theorem owedSound_duty0 (v : Int) (h : -1 ≤ v ∧ v ≤ 3) : ({ duty0 with owed := v } : Duty).owedSound := by
  refine ⟨?_, ?_, by intro h'; cases h'⟩
  · simpa [DutyDef.owedInRange, duty0, defn0] using h
  · intro w hw
    simp only [duty0, defn0, Option.some.injEq] at hw
    subst hw
    simp [DutyDef.owedInRange, duty0, defn0]

/-- Duty 3 at a boundary with this count. -/
def boundaryState (v : Int) : State := small 1000 { duty0 with owed := v } target0 lane0 none

theorem boundaryState_meets (v : Int) (h : -1 ≤ v ∧ v ≤ 3) :
    (boundaryState v).accrues 3 = true ∧ ((boundaryState v).duty 3).nextBoundary = some 1000 ∧
      (1000 : Epoch).toNat ≤ (boundaryState v).now.toNat ∧ ((boundaryState v).duty 3).owedSound ∧
      ((boundaryState v).duty 3).owed = v :=
  ⟨rfl, rfl, Nat.le_refl _, owedSound_duty0 v h, rfl⟩

/-- Below 0, at 0, at D = 2, and at D + 1 with the marker clear. -/
theorem witness_BoundaryRaisesOwedOrMisses :
    ((boundaryState (-1)).duty 3).owed = -1 ∧ ((boundaryState 0).duty 3).owed = 0 ∧ ((boundaryState 2).duty 3).owed = 2 ∧
      ((boundaryState 3).duty 3).owed = 3 ∧ ((boundaryState 3).duty 3).overdue = false ∧
      (∀ v ∈ [(-1 : Int), 0, 2, 3], ((boundaryState v).duty 3).owedSound) := by
  refine ⟨rfl, rfl, rfl, rfl, rfl, ?_⟩
  intro v hv
  simp only [List.mem_cons, List.not_mem_nil, or_false] at hv
  exact (boundaryState_meets v (by omega)).2.2.2.1

/-- A Next boundary at the last epoch value and one beyond it, and a duty that an offer gives a ticket and one that it does not. -/
theorem witness_BoundaryRaisesOwedOrMisses_offers :
    boundaryAfter (BitVec.ofNat 48 (2 ^ 48 - 17)) 16 = some (BitVec.ofNat 48 (2 ^ 48 - 1)) ∧
      boundaryAfter (BitVec.ofNat 48 (2 ^ 48 - 16)) 16 = none ∧ Duty.getsTicket { duty0 with owed := 1 } = true ∧
      duty0.getsTicket = false := by decide +kernel

theorem witness_StopSuspendsTheDuty :
    let s := stage [(0, 3)] (small 1000 { duty0 with defn := { defn0 with stopTime := some 1000 } } target0 lane0 none)
    (s.duty 3).state = .running ∧ s.port.state = .ready ∧ stagedIndex s.port.staging = 3 ∧
      (s.duty 3).defn.stopTime = some 1000 ∧ s.now = 1000 := by decide +kernel

theorem witness_EndsThatOnlyPromptALook :
    let s := (small 1000 { duty0 with owed := 1, ticket := true, backoffUntil := some 1000 }
      { target0 with deadlineKind := .minimum, deadline := some 1000 } lane0 none).setList 0 [3]
    let u := small 1000 {}
      { target0 with
        holdState := .leaving, holdTransaction := .exitPending, deadlineKind := .minimum, deadline := some 1000 } lane0 none
    ((s.duty 3).backoffUntil = some 1000 ∧ s.now = 1000 ∧ s.mayIssue 0 = true ∧ s.choose 0 = some (.duty 3)) ∧
      (u.target 1).holdState = .leaving ∧ (u.target 1).deadline = some 1000 ∧ u.choose 0 = some (.exit 1) := by
  decide +kernel

/-- For each candidate by its fields a state that has it: an exit with its minimum hold end reached, an entry, a PRESSED ticket, a
DUE one by Owed and one by a mark, an advance candidate, and a duty kept back by its target, its backoff and its lock. -/
theorem witness_LookTakesTheFirstCandidate :
    let u := fun e => small 1000 {}
      { target0 with
        holdState := .leaving, holdTransaction := .exitPending, deadlineKind := .minimum, deadline := some e } lane0 none
    let v := fun x h => small 1000 x { target0 with holdState := h } lane0 none
    let y : Duty := { duty0 with defn := { defn0 with advancePermitted := true } }
    ((u 1000).exitReady 0 1 = true ∧ (u 1001).exitReady 0 1 = false ∧
        (holdState .entering .entryPending).entryReady 0 1 = true) ∧
      ((v { duty0 with owed := 3 } .active).pressedTicket 3 = true ∧ (v { duty0 with owed := 1 } .active).dueTicket 3 = true ∧
        (v { duty0 with owed := -1, catchUp := true } .active).dueTicket 3 = true ∧ duty0.wantsIssue = false ∧
        Duty.wantsIssue { duty0 with owed := -1, catchUp := true } = true) ∧
      ((v y .active).advanceCandidate 0 3 = true ∧ (v { y with owed := -1 } .active).advanceCandidate 0 3 = false) ∧
      (v duty0 .active).eligible 3 = true ∧ (v duty0 .settling).eligible 3 = false ∧
      (v { duty0 with backoffUntil := some 1001 } .active).eligible 3 = false ∧
      ((v duty0 .active).setLock 1 (some 4)).eligible 3 = false := by decide +kernel

theorem witness_LookTakesTheFirstCandidate_owedSound : Duty.owedSound { duty0 with owed := 1 } :=
  ⟨⟨by decide, by decide⟩, by intro v h; obtain rfl : (1 : Int) = v := Option.some.inj h; exact ⟨by decide, by decide⟩,
    by intro h; cases h⟩

/-- On a SELECT lane, and on an ADDRESSED lane behind a stop that waits. -/
theorem witness_IssueBuildsTheRecord :
    quietState.laneOf 3 = 0 ∧ (quietState.lane 0).stopWaiting = false ∧ (quietState.lane 0).mode = .select ∧
      ((small 0 {} {} { lane2 with stopWaiting := true } none).lane 0).stopWaiting = true ∧ lane2.mode = .addressed := by
  decide +kernel

/-- Duty 3 on lane 0 and duty 4 on lane 1, with tickets, both in Share group 2. -/
def sharedState : State :=
  ((((((small 1000 { duty0 with owed := 1, ticket := true } target0 lane0 none).setDuty 4
    { duty0 with owed := 1, ticket := true, defn := { defn0 with target := 2 } }).setTarget 2
    { target0 with defn := { target0.defn with lane := 1 } }).setLane 1 lane0).setList 0 [3]).setList 1 [4])

/-- Lane 0 among lanes in any order, with one that may not issue. -/
theorem witness_LowestLaneGetsTheLock :
    sharedState.mayIssue 0 = true ∧ sharedState.mayIssue 1 = true ∧ sharedState.mayIssue 3 = false ∧
      sharedState.choose 0 = some (.duty 3) ∧ sharedState.choose 1 = some (.duty 4) ∧ sharedState.lockOf 3 = some 1 ∧
      sharedState.lockOf 4 = some 1 ∧ (sharedState.looks [3, 1, 0]).lock 1 = some 3 ∧
      ((sharedState.looks [3, 1, 0]).duty 4).inFlight = false ∧ (sharedState.looks [1]).lock 1 = some 4 := by
  decide +kernel

/-- Beside the duties of `sharedState`, duty 5 on lane 1 and duty 6 on lane 2, both of Share group 0. -/
def sharedFree : State :=
  (((((sharedState.setDuty 5 { duty0 with owed := 1, ticket := true, defn := { defn0 with target := 2, shareGroup := 0 } }).setDuty
    6 { duty0 with owed := 1, ticket := true, defn := { defn0 with target := 4, shareGroup := 0 } }).setTarget 4
    { target0 with defn := { target0.defn with lane := 2 } }).setLane 2 lane0).setList 1 [4, 5]).setList 2 [6]

/-- Lane 0 wins the lock, lane 1 is refused and goes on to its next candidate or, without one, stays idle, and lane 2 needs no
lock. -/
theorem witness_LowestLaneGetsTheLock_rounds :
    (sharedFree.firstClaim 1 = some 1 ∧ sharedFree.firstClaim 2 = none ∧ sharedFree.choose 2 = some (.duty 6) ∧
        (sharedFree.duty 6).defn.shareGroup = 0 ∧ sharedFree.claimLost [2, 1, 0] 1 = true ∧
        sharedFree.claimLost [2, 1, 0] 0 = false ∧ sharedFree.claimLost [2, 1] 1 = false) ∧
      allLanes.map (fun l => ((sharedFree.looks [3, 2, 1, 0]).record l).map (·.kind)) =
        [some (.duty 3), some (.duty 5), some (.duty 6), none] ∧
      ((sharedState.looks [0, 1]).mayIssue 1 = true ∧ (sharedState.looks [0, 1]).choose 1 = none) ∧
      (holdState .entering .entryPending).choose 0 = some (.entry 1) := by decide +kernel

/-- A lane that may issue and has no candidate, one that has, and a lock that is released. -/
theorem witness_LowestLaneGetsTheLock_looks :
    quietState.mayIssue 0 = true ∧ quietState.choose 0 = none ∧
      ((sharedState.looks [0]).record 0).map (·.kind) = some (.duty 3) ∧
      (sharedState.setLock 1 (some 3)).lock 1 ≠ none ∧ sharedState.lock 1 = none := by decide +kernel

/-- The transaction of duty 3 on lane 0, in a state whose lane and record are these. -/
theorem serves_small (x : Duty) (z : Lane) (r : InFlight) (now : Epoch) (hk : r.kind = .duty 3)
    (hd : x.defn.target = 1) (hp : x.retirePending = false) : (small now x target0 z (some r)).serves 0 r 3 := by
  refine ⟨by simp [small, State.record, State.setRecord], hk, ?_, ?_⟩
  · simp [small, State.laneOf, State.targetOf, State.duty, State.target, State.setDuty, State.setTarget, State.setLane,
      State.setRecord, hd, target0]
  · simpa [small, State.duty, State.setDuty, State.setTarget, State.setLane, State.setRecord] using hp

/-- Duty 3 with its retries spent, in this state. -/
def spent (st : DutyState) : Duty := { duty1 with state := st, attempts := 1 }

/-- RUNNING and STOPPED, with any record on any lane. -/
theorem serves_spent :
    (∀ st z r now, r.kind = .duty 3 → (small now (spent st) target0 z (some r)).serves 0 r 3) ∧
      (∀ st, (spent st).defn.retryLimit ≤ (spent st).attempts ∧ (spent st).state = st) :=
  ⟨fun _ _ _ _ h => serves_small _ _ _ _ h rfl rfl, fun _ => ⟨Nat.le_refl _, rfl⟩⟩

/-- The Reason and the Status of the DUTY-FAULTED incident of each failure, and none where the duty is STOPPED. -/
theorem test_failures_fault :
    ((after (.responseDeadline 0) (small 1010 (spent .running) target0 lane1 (some waited))).inc.queue.map
        fun i => (i.kind, i.reason, i.status)) = [(.dutyFaulted, some .timeout, some 0x00)] ∧
      ((after (.addressNotAcknowledged 0) (small 1000 (spent .running) target0 lane2 (some record0))).inc.queue.map
        fun i => (i.reason, i.status)) = [(some .noAnswer, none)] ∧
      ((after (.requestByteRefused 0) (small 1000 (spent .running) target0 lane2 (some record0))).inc.queue.map
        fun i => (i.reason, i.status)) = [(some .rejected, none)] ∧
      ((after (.checkByte 0 0xDA) (small 1000 { spent .running with busyCount := 2 } target0 lane1
        (some (answered 0x62 [])))).inc.queue.map fun i => (i.reason, i.status)) = [(some .busyLimit, some 0x62)] ∧
      ((after (.clockLineHold 0) (small 1010 (spent .running) target0 lane2 (some record0))).duty 3).state = .faulted ∧
      (after (.addressNotAcknowledged 0) (small 1000 (spent .stopped) target0 lane2 (some record0))).inc.queue = [] := by
  decide +kernel

/-- Beside these, the spent states of `serves_spent`. -/
theorem witness_ResponseDeadlineByPhase :
    let due := { record0 with deadline := 1000 }
    let waiting := { due with phase := .wait }
    ((small 1000 duty1 target0 lane1 (some due)).record 0 = some due ∧ due.phase = .request ∧ due.deadline = 1000) ∧
      (small 1000 duty1 target0 lane1 (some waiting)).serves 0 waiting 3 ∧ duty1.attempts < duty1.defn.retryLimit ∧
      (small 1000 duty1 target0 { lane2 with lineHeld := true } (some due)).serves 0 due 3 ∧
      Lane.clockHeld { lane2 with lineHeld := true } = true ∧ lane1.clockHeld = false := by
  refine ⟨by decide +kernel, serves_small _ _ _ _ rfl rfl rfl, by decide, serves_small _ _ _ _ rfl rfl rfl, by decide,
    by decide⟩

theorem witness_QuietEndFreesTheLane :
    let s := (small 1000 {} {} { lane0 with activity := .quiet, quietEnd := some 1000, quietLock := some (1, 3) } none).setLock
      1 (some 3)
    (s.lane 0).activity = .quiet ∧ (s.lane 0).quietEnd = some 1000 ∧ s.now = 1000 ∧ s.lock 1 = some 3 := by decide +kernel

theorem witness_BlackoutBeginsAndEnds :
    let s := stage [(0, 0), (1, 1), (2, 1)] quietState
    let u := small 1000 {} {} { lane0 with gate := .blackout, blackoutEnd := some 1000 } none
    (stagedLength s.port.staging = 1 ∧ (s.lane 0).gate = .opened ∧ stagedYield s.port.staging = true ∧
        s.pressedOnLane 0 = false) ∧
      (stagedIndex u.port.staging = 0 ∧ (u.lane 0).gate = .blackout ∧ (u.lane 0).blackoutEnd = some 1000 ∧ u.now = 1000) ∧
      (quietState.lane 0).gate ≠ .blackout := by decide +kernel

theorem witness_SuspensionEnds :
    let u := small 1000 {} {} { lane0 with gate := .suspect, integrityCount := 2, recoveryEnd := some 1000 } none
    (u.lane 0).gate = .suspect ∧ (u.lane 0).recoveryEnd = some 1000 ∧ u.now = 1000 ∧ stagedIndex u.port.staging = 0 ∧
      u.port.state = .ready ∧ (quietState.lane 0).gate ≠ .suspect := by decide +kernel

theorem witness_HoldLimitsReached :
    let s := small 1000 {} { target0 with holdState := .held, deadlineKind := .maximum, deadline := some 1000 } lane0 none
    let u := small 1000 {} { target0 with holdState := .settling, deadlineKind := .settle, deadline := some 1000 } lane0 none
    ((s.target 1).holdState = .held ∧ (s.target 1).deadlineKind = .maximum ∧ (s.target 1).deadline = some 1000) ∧
      (u.target 1).holdState = .settling ∧ (u.target 1).deadlineKind = .settle ∧ u.now = 1000 := by decide +kernel

theorem witness_StatusAndDataFollowTheFrame :
    (requestState.record 0 = some record0 ∧ (requestState.lane 0).clockHeld = false ∧ record0.phase = .request ∧
        record0.deadlinePassed = false) ∧
      ((answerState 0x61 []).record 0 = some (answered 0x61 []) ∧ (answered 0x61 []).phase = .response ∧
        (answered 0x61 []).data.length < ((answerState 0x61 []).duty 3).defn.readbackLength) ∧
      (answerState 0x61 []).expectedData (answered 0x61 []) = 1 ∧ (answerState 0x62 []).expectedData (answered 0x62 []) = 0 ∧
      quietState.expectedData { answered 0x61 [] with kind := .holdEntry } = 0 := by decide +kernel

theorem owedSound_duty1 : duty1.owedSound := owedSound_duty0 1 (by decide)

theorem witness_CreditedOutcome :
    (answerState 0x61 [0x5A]).serves 0 (answered 0x61 [0x5A]) 3 ∧ duty1.owedSound ∧
      (((answerState 0x61 [0x5A]).lane 0).clockHeld = false ∧ (answered 0x61 [0x5A]).phase = .response ∧
        ((answerState 0x61 [0x5A]).duty 3) = duty1 ∧ duty1.defn.readbackLength ≤ 1 ∧ duty1.defn.compare = false) :=
  ⟨serves_small _ _ _ _ rfl rfl rfl, owedSound_duty1, by decide +kernel⟩

/-- Duty 3 with Compare set, and with Halt on deviation. -/
def comparing (halt : Bool) : Duty :=
  { duty1 with
    defn := { defn0 with compare := true, expected := some [0x12], mask := some [0x0F], haltOnDeviation := halt } }

theorem owedSound_comparing (halt : Bool) : (comparing halt).owedSound := by
  obtain ⟨h1, h2, h3⟩ := owedSound_duty1
  exact ⟨h1, h2, h3⟩

theorem witness_DeviationOutcome :
    (∀ halt, (small 1000 (comparing halt) target0 lane1 (some (answered 0x61 [0x13]))).serves 0 (answered 0x61 [0x13]) 3) ∧
      (∀ halt, (comparing halt).owedSound) ∧ ¬matchesUnder [0x12] [0x0F] [0x13] ∧ matchesUnder [0x12] [0x0F] [0xF2] ∧
      (comparing true).state = .running ∧ (comparing false).defn.haltOnDeviation = false :=
  ⟨fun _ => serves_small _ _ _ _ rfl rfl rfl, owedSound_comparing, by rw [← equalUnderMask_iff]; decide +kernel,
    by rw [← equalUnderMask_iff]; decide +kernel, by decide +kernel⟩

/-- Beside these, the spent states of `serves_spent`. -/
theorem witness_BusyAndRejectedOutcomes :
    (answerState 0x62 []).serves 0 (answered 0x62 []) 3 ∧
      (small 1000 { duty1 with busyCount := 2 } target0 lane1 (some (answered 0x62 []))).serves 0 (answered 0x62 []) 3 ∧
      (answerState 0x63 []).serves 0 (answered 0x63 []) 3 ∧
      (small 1000 { duty1 with attempts := 1 } target0 lane1 (some (answered 0x63 []))).serves 0 (answered 0x63 []) 3 ∧
      (small 1000 { duty1 with state := .stopped, attempts := 1 } target0 lane1 (some (answered 0x63 []))).serves 0
        (answered 0x63 []) 3 ∧
      duty1.busyCount < duty1.defn.busyLimit ∧ duty1.defn.busyLimit = 2 ∧ duty1.defn.retryLimit = 1 :=
  ⟨serves_small _ _ _ _ rfl rfl rfl, serves_small _ _ _ _ rfl rfl rfl, serves_small _ _ _ _ rfl rfl rfl,
    serves_small _ _ _ _ rfl rfl rfl, serves_small _ _ _ _ rfl rfl rfl, by decide⟩

/-- With retries left, with them spent, and of a STOPPED duty. -/
theorem witness_IntegrityOutcome :
    ((answerState 0x61 [0x5A]).serves 0 (answered 0x61 [0x5A]) 3 ∧ (0xB7 : Byte) ≠ checkOf [0x61, 0x5A] ∧
        (answerState 0x61 [0x5A]).expectedData (answered 0x61 [0x5A]) ≤ 1) ∧
      (requestState.serves 0 record0 3 ∧ record0.phase = .request ∧ (requestState.lane 0).mode = .select) ∧
      (addressedState.serves 0 record0 3 ∧ (addressedState.lane 0).mode = .addressed) ∧
      (∀ r, r.kind = .duty 3 →
        (small 1000 { duty1 with attempts := 1 } target0 lane1 (some r)).serves 0 r 3 ∧
          (small 1000 { duty1 with state := .stopped, attempts := 1 } target0 lane1 (some r)).serves 0 r 3) ∧
      duty1.attempts < duty1.defn.retryLimit ∧ duty1.defn.retryLimit = 1 ∧ duty1.state = .running :=
  ⟨⟨serves_small _ _ _ _ rfl rfl rfl, by decide +kernel⟩, ⟨serves_small _ _ _ _ rfl rfl rfl, by decide +kernel⟩,
    ⟨serves_small _ _ _ _ rfl rfl rfl, by decide +kernel⟩,
    fun _ h => ⟨serves_small _ _ _ _ h rfl rfl, serves_small _ _ _ _ h rfl rfl⟩, by decide, rfl, rfl⟩

/-- The last retry of a RUNNING duty ends in INTEGRITY, then DUTY-FAULTED. -/
theorem test_integrity_faults :
    (after (.checkByte 0 0xB7) (small 1000 { duty1 with attempts := 1 } target0 lane1
        (some (answered 0x61 [0x5A])))).inc.queue.map (·.kind) = [.integrity, .dutyFaulted] ∧
      (after (.statusRead 0 0x17) (small 1000 { duty1 with state := .stopped, attempts := 1 } target0 lane1
        (some record0))).inc.queue.map (·.kind) = [.integrity] := by decide +kernel

/-- Beside these, the spent states of `serves_spent`. -/
theorem witness_FrameEndsWithoutCheckByte :
    addressedState.serves 0 record0 3 ∧ requestState.serves 0 record0 3 ∧
      (small 1000 duty1 target0 lane1 (some { record0 with deadlinePassed := true })).serves 0
        { record0 with deadlinePassed := true } 3 ∧
      (small 1000 duty1 target0 lane2 (some { record0 with phase := .wait, tickSinceRead := true })).serves 0
        { record0 with phase := .wait, tickSinceRead := true } 3 ∧
      (addressedState.lane 0).clockHeld = false :=
  ⟨serves_small _ _ _ _ rfl rfl rfl, serves_small _ _ _ _ rfl rfl rfl, serves_small _ _ _ _ rfl rfl rfl,
    serves_small _ _ _ _ rfl rfl rfl, by decide +kernel⟩

/-- An ADDRESSED lane with a stop that waits on the held clock line, and this record behind it. -/
def waitingStop (r : Option InFlight) : State := small 0 {} {} { lane2 with lineHeld := true, stopWaiting := true } r

/-- Beside these, the spent states of `serves_spent`. -/
theorem witness_ClockLineHoldAndRelease :
    (addressedState.record 0 = some record0 ∧ addressedState.now.toNat < record0.deadline.toNat) ∧
      (small 1010 duty1 target0 lane2 (some record0)).serves 0 record0 3 ∧ record0.deadline = 1010 ∧
      (((waitingStop none).lane 0).stopWaiting = true ∧ (waitingStop none).record 0 = none ∧
        (waitingStop (some record0)).record 0 = some record0) :=
  ⟨by decide +kernel, serves_small _ _ _ _ rfl rfl rfl, rfl, by decide +kernel⟩

theorem witness_CheckByteTellsBytesApart : (0x61 : Byte) ≠ 0x62 := by decide

/-- Example 10-1 meets every check of DEFINE DUTY. -/
theorem witness_DefineDutyWritesTheRecord :
    let w := dutyStaging example10.port.staging
    (w.laidOut example10.port.staging ∧ (dutyDefOf example10.port.staging).laidOut w example10.port.staging) ∧
      example10.port.state = .ready ∧ w.index = 5 ∧ (example10.duty 5).state = .vacant ∧ w.payloadLength = 0 ∧
      w.readbackLength = 0 ∧ w.interval = 1000 ∧ w.deferLimit = 2 ∧ w.advanceLimit = 1 ∧ w.initialOwed = some 1 ∧
      w.retryLimit = 2 ∧ w.busyLimit = 3 ∧ w.quietTime = 0 ∧ w.shareGroup = 0 ∧ w.compare = false ∧ w.startTime = none ∧
      w.stopTime = none ∧ w.target = 2 ∧ (example10.target 2).holdState = .active :=
  ⟨⟨dutyStaging_laidOut _, dutyDefOf_laidOut _ (by decide +kernel) (by decide +kernel) (by decide +kernel)⟩,
    by decide +kernel⟩

/-- With a Start time to come, with one reached, on a held target, and a WAITING duty at its Start time. -/
theorem witness_StartDutyWaitsOrRuns :
    let s := stage [(0, 3), (1, 1), (2, 1001)] (small 1000 (inState .stopped) target0 lane0 none)
    let u := stage [(0, 3), (1, 1), (2, 1000)] (small 1000 (inState .stopped) target0 lane0 none)
    let v := stage [(0, 3)] (small 1000 (inState .stopped) { target0 with holdState := .held } lane0 none)
    let w := small 1000 { inState .waiting with defn := { defn0 with startTime := some 1000 } } target0 lane0 none
    (s.port.state = .ready ∧ stagedIndex s.port.staging = 3 ∧ (s.duty 3).state = .stopped ∧ (s.duty 3).inFlight = false ∧
        stagedStartTime s.port.staging = some 1001 ∧ (s.duty 3).defn.stopTime = none ∧ s.now = 1000) ∧
      (stagedStartTime u.port.staging = some 1000 ∧ (u.targetOf 3).holdState = .active) ∧
      (stagedStartTime v.port.staging = none ∧ (v.targetOf 3).holdState = .held) ∧
      (w.duty 3).state = .waiting ∧ (w.duty 3).defn.startTime = some 1000 ∧ (w.targetOf 3).holdState = .active := by
  decide +kernel

theorem witness_ReviveDutyKeepsTheDebt :
    let s := stage [(0, 3)] (small 1000 { inState .faulted with owed := 3 } target0 lane0 none)
    s.port.state = .ready ∧ stagedIndex s.port.staging = 3 ∧ (s.duty 3).state = .faulted ∧
      (s.targetOf 3).holdState.accruing = true := by decide +kernel

/-- SET OWED to D + 2, to D + 1, to 0 and to -A. -/
theorem witness_ProdDutyAndSetOwed :
    (stagedIndex (stage [(0, 3)] quietState).port.staging = 3 ∧ (quietState.duty 3).state = .running ∧
        (quietState.duty 3).forced = false ∧ ((small 0 { duty0 with forced := true } {} {} none).duty 3).forced = true) ∧
      ((quietState.duty 3).defn.deferLimit = 2 ∧ (quietState.duty 3).defn.advanceLimit = 1) ∧
      stagedOwed (stage [(0, 3), (1, 4)] quietState).port.staging = 4 ∧
      stagedOwed (stage [(0, 3), (1, 3)] quietState).port.staging = 3 ∧
      stagedOwed (stage [(0, 3), (1, 0)] quietState).port.staging = 0 ∧
      stagedOwed (stage [(0, 3), (1, 0xFFFF)] quietState).port.staging = -1 ∧ (quietState.duty 3).catchUp = false := by
  decide +kernel

theorem witness_SnapshotsShowTheRecord :
    (stagedIndex (stage [(0, 3), (1, 1)] quietState).port.staging = 3 ∧
        stagedClear (stage [(0, 3), (1, 1)] quietState).port.staging = true ∧
        (quietState.duty 3).nextBoundary = some 1000 ∧ (quietState.duty 3).backoffUntil = none) ∧
      stagedIndex (stage [(0, 1)] quietState).port.staging = 1 ∧ quietState.port.state = .ready ∧
      (after .snapshotDuty (stage [(0, 3)] (small 0 { duty1 with attempts := 3, busyCount := 15, lastOutcome := .abandoned }
        target0 lane0 none))).busReads 0x2B = 0x09F3 ∧
      (after .snapshotTarget (stage [(0, 1)] (small 0 {}
        { target0 with
          holdState := .leaving, holdTransaction := .exitInFlight, holdAttempts := 4, heldSince := some 9
          deadlineKind := .minimum, deadline := some 0x000100020003 } lane0 none))).busReads 0x29 = 0x4944 := by
  decide +kernel

/-- Target 9 on a SELECT lane at Address 7, and on an ADDRESSED lane at 0x08 and at 0x77. -/
theorem witness_DefineTargetWritesTheRecord :
    let s := stage [(0, 9), (1, 0x0307), (2, 0x0101), (3, 0x0440), (6, 0x0441)] (small 0 {} target0 lane0 none)
    let w := targetStaging s.port.staging
    (w.laidOut s.port.staging ∧ (targetDefOf s.port.staging).laidOut w s.port.staging) ∧
      (s.port.state = .ready ∧ w.index = 9 ∧ w.lane = 0 ∧ (s.target 9).holdState = .undefined ∧
        s.duplicate 9 w.lane w.address = false ∧ (s.lane 0).configured = true ∧ (s.lane 0).mode = .select ∧
        w.address = 7 ∧ w.responseTimeout = 1 ∧ w.busyBackoff = 1 ∧ w.entryLength = 4 ∧ w.exitLength = 4 ∧
        w.holdRetryLimit = 3) ∧
      (targetStaging (stage [(1, 0x0008)] s).port.staging).address = 0x08 ∧
      (targetStaging (stage [(1, 0x0077)] s).port.staging).address = 0x77 ∧ lane2.mode = .addressed :=
  ⟨⟨targetStaging_laidOut _, targetDefOf_laidOut _ (by decide +kernel) (by decide +kernel) (by decide +kernel)⟩,
    by decide +kernel⟩

theorem witness_DropAndHoldTarget :
    (stagedIndex (stage [(0, 1)] quietState).port.staging = 1 ∧ (quietState.target 1).holdState = .active) ∧
      (small 0 {} target0 lane0 none).inUse 1 = false ∧ quietState.inUse 1 = true ∧ quietState.catchUpPending 1 = false ∧
      (small 0 { duty0 with catchUp := true } target0 lane0 none).catchUpPending 1 = true ∧
      ((small 0 {} { target0 with holdState := .stranded } lane0 none).target 1).holdState = .stranded := by decide +kernel

theorem witness_ReleaseTargetByState :
    stagedIndex (stage [(0, 1)] State.reset).port.staging = 1 ∧
      ((holdState .entering .entryPending).target 1).holdTransaction = .entryPending ∧
      ((holdState .entering .entryInFlight).target 1).holdTransaction = .entryInFlight ∧
      ((small 0 {} { target0 with holdState := .held, heldSince := some 9 } lane0 none).target 1).heldSince = some 9 ∧
      ((holdState .stranded .none).target 1).holdState = .stranded ∧ (quietState.target 1).holdState = .active := by
  decide +kernel

/-- An entry or an exit of target 1 whose DONE is in, with a release pending or not. -/
def holdAnswered (kind : TxnKind) (h : HoldState) (txn : HoldTransaction) (release : Bool) : State :=
  small 1000 duty0 { target0 with holdState := h, holdTransaction := txn, releasePending := release } lane1
    (some { answered 0x61 [] with kind := kind })

theorem witness_EntryCreditHoldsTheTarget :
    (holdAnswered .holdEntry .entering .entryInFlight false).record 0 = some { answered 0x61 [] with kind := .holdEntry } ∧
      ((holdAnswered .holdEntry .entering .entryInFlight false).lane 0).clockHeld = false ∧
      ((holdAnswered .holdEntry .entering .entryInFlight false).target 1).releasePending = false ∧
      ((holdAnswered .holdEntry .entering .entryInFlight true).target 1).releasePending = true ∧
      target0.defn.maximumHold ≠ 0 ∧ (answered 0x61 []).target = 1 ∧
      (let s := small 1000 duty0
        { target0 with
          holdState := .entering, holdTransaction := .entryInFlight, defn := { target0.defn with maximumHold := 0 } } lane1
        (some { answered 0x61 [] with kind := .holdEntry })
      (s.record 0).map (·.kind) = some .holdEntry ∧ (s.target 1).releasePending = false ∧ (s.target 1).defn.maximumHold = 0 ∧
        ((after (.checkByte 0 0xD3) s).target 1).deadline = none) := by decide +kernel

/-- An exit of target 1 whose DONE is in, of this duty and this Settle time, on a lane in BLACKOUT. -/
def exitAnswered (x : Duty) (settle : Nat) (yielding : Bool) : State :=
  small 1000 x
    { target0 with
      holdState := .leaving, holdTransaction := .exitInFlight, defn := { target0.defn with settleTime := settle } }
    { lane1 with gate := .blackout, blackoutEnd := some 2000, yielding := yielding }
    (some { answered 0x61 [] with kind := .holdExit })

/-- An exit credited at the epoch of a WAITING duty's Start time starts it, and its START_TIME then changes nothing (log 22); with
the START_TIME taken first, the duty stays WAITING until the credit (R10). -/
theorem test_exit_at_startTime :
    let s := exitAnswered { inState .waiting with owed := 1, defn := { defn0 with startTime := some 1000 } } 0 false
    let t := after (.checkByte 0 0xD3) s
    (t.duty 3).state = .running ∧ (t.duty 3).nextBoundary = some 1100 ∧ t.list 0 = [3] ∧ after (.startTime 3) t = t ∧
      after (.startTime 3) s = s := by decide +kernel

/-- A RUNNING duty, a WAITING one that may start and one that may not, Settle time 7 and 0, and a pressed duty in a blackout
with Yield and without. -/
theorem witness_ExitCreditRebasesTheDuties :
    ((holdAnswered .holdExit .leaving .exitInFlight false).record 0 = some { answered 0x61 [] with kind := .holdExit } ∧
        ((holdAnswered .holdExit .leaving .exitInFlight false).target 1).defn.lane = 0 ∧
        0 < ((holdAnswered .holdExit .leaving .exitInFlight false).target 1).defn.settleTime ∧
        ((holdAnswered .holdExit .leaving .exitInFlight false).duty 3).state = .running) ∧
      (((exitAnswered (inState .waiting) 0 true).rebased 3).state = .running ∧
        ((exitAnswered (inState .waiting) 0 true).target 1).defn.settleTime = 0 ∧
        ((exitAnswered (inState .waiting) 0 true).lane 0).clockHeld = false) ∧
      ((exitAnswered { inState .waiting with defn := { defn0 with startTime := some 1001 } } 0 true).rebased 3).state =
        .waiting ∧
      (((exitAnswered { duty0 with owed := 3 } 7 true).rebased 3).getsTicket = true ∧
        ((exitAnswered { duty0 with owed := 3 } 7 true).duty 3).owed =
          ((exitAnswered { duty0 with owed := 3 } 7 true).duty 3).defn.deferLimit + 1 ∧
        ((after (.checkByte 0 0xD3) (exitAnswered { duty0 with owed := 3 } 7 true)).lane 0).gate = .opened ∧
        (after (.checkByte 0 0xD3) (exitAnswered { duty0 with owed := 3 } 7 true)).list 0 = [3]) ∧
      ((after (.checkByte 0 0xD3) (exitAnswered { duty0 with owed := 3 } 7 false)).lane 0).gate = .blackout := by
  decide +kernel

/-- An entry or an exit of target 1 at its deadline, with this many attempts spent. -/
def holdWaiting (kind : TxnKind) (h : HoldState) (txn : HoldTransaction) (spent : Nat) : State :=
  small 1000 {} { target0 with holdState := h, holdTransaction := txn, holdAttempts := spent } lane1
    (some { record0 with kind := kind, phase := .wait, deadline := 1000, status := some 0x00 })

/-- An entry or an exit of target 1 with this record and this many attempts spent, with a release pending or not. -/
def holdFailing (z : Lane) (r : InFlight) (spent : Nat) (release : Bool) : State :=
  small 1000 {}
    { target0 with
      holdState := .entering, holdTransaction := .entryInFlight, holdAttempts := spent, releasePending := release } z
    (some r)

/-- Such a state has the record, the lane and the target it was made of. -/
theorem holdFailing_meets (z : Lane) (r : InFlight) (spent : Nat) (release : Bool) :
    (holdFailing z r spent release).record 0 = some r ∧ (holdFailing z r spent release).lane 0 = z ∧
      ((holdFailing z r spent release).target 1).holdAttempts = spent ∧
      ((holdFailing z r spent release).target 1).releasePending = release := by
  simp [holdFailing, small, State.record, State.lane, State.target, State.setDuty, State.setTarget, State.setLane,
    State.setRecord]

/-- For each failure a record and a lane that meet its clause, in the states of `holdFailing_meets`, with any number of attempts
spent and a release pending or not; the retry limit is 1. -/
theorem witness_HoldTransactionFails :
    ((holdWaiting .holdEntry .entering .entryInFlight 0).record 0).map (·.deadline) = some 1000 ∧
      (holdWaiting .holdExit .leaving .exitInFlight 1).now = 1000 ∧ target0.defn.holdRetryLimit = 1 ∧
      (lane1.clockHeld = false ∧ lane1.mode = .select) ∧ (lane2.clockHeld = false ∧ lane2.mode = .addressed) ∧
      (Lane.clockHeld { lane2 with lineHeld := true } = true ∧ InFlight.deadline { record0 with deadline := 1000 } = 1000) ∧
      record0.phase = .request ∧ waited.phase = .wait ∧ waited.tickSinceRead = true ∧
      ((answered 0x62 []).status = some 0x62 ∧ (answered 0x63 []).data = [] ∧ (0x00 : Byte) ≠ checkOf [0x62]) := by
  decide +kernel

/-- A release pending ends the entry with no incident; INTEGRITY of the last retry records its incident and HOLD-FAILED. -/
theorem test_holdFails :
    ((after (.addressNotAcknowledged 0) (holdFailing lane2 { record0 with kind := .holdEntry } 0 true)).target 1).holdState =
        .active ∧
      (after (.addressNotAcknowledged 0) (holdFailing lane2 { record0 with kind := .holdEntry } 0 true)).inc.queue = [] ∧
      (after (.checkByte 0 0x00) (holdFailing lane1 { answered 0x62 [] with kind := .holdEntry } 1 false)).inc.queue.map
        (·.kind) = [.integrity, .holdFailed] := by decide +kernel

/-- Both modes; and a lane's count at its bound. -/
theorem witness_ConfigureLaneWritesTheConfiguration :
    let s := stage [(0, 2), (1, 0x0001), (2, 0x0101)] State.reset
    let u := stage [(0, 2), (2, 0x0101)] State.reset
    let w := laneStaging s.port.staging
    let v := laneStaging u.port.staging
    (w.laidOut s.port.staging ∧ v.laidOut u.port.staging) ∧
      (w.lane = 2 ∧ w.mode = .addressed ∧ w.divider = 1 ∧ w.recoveryTime = 1) ∧ v.mode = .select ∧
      (State.reset.lane 2).gate = .closed ∧ (State.reset.lane 2).configured = false ∧
      (let q := small 0 {} {} { lane0 with gate := .suspect, integrityCount := 3, latched := true } none
      (q.lane 0).integrityCount ≤ 3 ∧ q.busReads 0x58 = 0x00F3) :=
  ⟨⟨laneStaging_laidOut _, laneStaging_laidOut _⟩, by decide +kernel⟩

theorem witness_OpenLaneOpensTheGate :
    let s := small 0 {} {} { lane0 with gate := .closed } none
    (s.port.state = .ready ∧ stagedIndex s.port.staging = 0 ∧ (s.lane 0).configured = true ∧ (s.lane 0).gate = .closed) ∧
      (State.reset.lane 0).configured = false ∧ (quietState.lane 0).gate ≠ .closed := by decide +kernel

/-- With nothing in flight, with a quiet time that carries a lock, with a duty and with a hold in flight. -/
theorem witness_CloseLaneEndsTheLane :
    let q := (small 1000 {} {} { lane0 with activity := .quiet, quietEnd := some 1005, quietLock := some (1, 3) } none).setLock
      1 (some 3)
    (requestState.port.state = .ready ∧ stagedIndex requestState.port.staging = 0 ∧ quietState.record 0 = none) ∧
      (q.record 0 = none ∧ (q.lane 0).quietLock = some (1, 3) ∧ q.lock 1 = some 3 ∧ (after .closeLane q).lock 1 = none) ∧
      requestState.serves 0 record0 3 ∧
      ((holdWaiting .holdEntry .entering .entryInFlight 0).record 0).isSome = true ∧
      ((holdWaiting .holdEntry .entering .entryInFlight 0).target 1).defn.lane = 0 :=
  ⟨by decide +kernel, by decide +kernel, serves_small _ _ _ _ rfl rfl rfl, by decide +kernel⟩

/-- Each phase on both modes, and a held clock line with a stop that waits. -/
theorem witness_PartActsOnTheLink :
    (addressedState.record 0 = some record0 ∧ (addressedState.lane 0).clockHeld = false ∧ record0.phase = .request ∧
        (addressedState.requestOf record0).length = 3) ∧
      ((small 1000 duty1 target2C lane2 (some waited)).record 0 = some waited ∧ waited.tickSinceRead = true) ∧
      ((small 1000 duty1 target2C lane2 (some (answered 0x61 []))).expectedData (answered 0x61 []) = 1 ∧
        (answered 0x61 []).data.length = 0 ∧ (answered 0x61 [0x5A]).data.length = 1) ∧
      ((requestState.lane 0).mode = .select ∧ record0.deadlinePassed = false ∧ record0.deadline = 1010) ∧
      (Lane.clockHeld { lane2 with lineHeld := true, stopWaiting := true } = true ∧
        Lane.clockHeld { lane2 with lineHeld := true } = true ∧ lane2.clockHeld = false ∧ lane2.stopWaiting = false) ∧
      wireBits .msbFirst 0x61 = [false, true, true, false, false, false, false, true] ∧
      (wireBits .lsbFirst 0x61).length = 8 ∧ (byteOfWire .lsbFirst (wireBits .lsbFirst 0x61)).getLsbD 7 = false := by
  decide +kernel

-- The invariants: the reset state meets them, and steps

theorem incidentUnit_reset_sound : State.reset.inc.sound := ⟨rfl, rfl, by decide⟩

theorem witness_IncidentUnitStaysSound : State.reset.inc.sound ∧ ∃ t, step State.reset = .next t :=
  ⟨incidentUnit_reset_sound, ⟨_, rfl⟩⟩

theorem quietState_time_sound : quietState.time.sound :=
  sound_of_fields rfl (by decide) (by decide) (by decide) (by decide) rfl

theorem witness_TimeBaseStaysSound : quietState.time.sound ∧ ∃ t, step quietState = .next t :=
  ⟨quietState_time_sound, ⟨_, rfl⟩⟩

theorem duty_quietState (d : DutyIx) : quietState.duty d = if d = 3 then duty0 else {} := by
  show ((((State.reset.setDuty 3 duty0).setTarget 1 target0).setLane 0 lane0).setRecord 0 none).duty d = _
  simp

theorem target_quietState (g : TargetIx) : quietState.target g = if g = 1 then target0 else {} := by
  show ((((State.reset.setDuty 3 duty0).setTarget 1 target0).setLane 0 lane0).setRecord 0 none).target g = _
  simp

theorem lane_quietState (l : LaneIx) : quietState.lane l = if l = 0 then lane0 else {} := by
  show ((((State.reset.setDuty 3 duty0).setTarget 1 target0).setLane 0 lane0).setRecord 0 none).lane l = _
  simp

theorem record_quietState (l : LaneIx) : quietState.record l = none := by
  show ((((State.reset.setDuty 3 duty0).setTarget 1 target0).setLane 0 lane0).setRecord 0 none).record l = _
  simp

theorem list_quietState (l : LaneIx) : quietState.list l = [] := by
  show ((((State.reset.setDuty 3 duty0).setTarget 1 target0).setLane 0 lane0).setRecord 0 none).list l = _
  simp

theorem lock_quietState (k : LockIx) : quietState.lock k = none := by
  show ((((State.reset.setDuty 3 duty0).setTarget 1 target0).setLane 0 lane0).setRecord 0 none).lock k = _
  simp

theorem duty_quietState_cases (d : DutyIx) : (d = 3 ∧ quietState.duty d = duty0) ∨ (d ≠ 3 ∧ quietState.duty d = {}) := by
  rw [duty_quietState]
  by_cases h : d = 3 <;> simp [h]

theorem quietState_owedSound : quietState.owedSound := by
  intro d
  rcases duty_quietState_cases d with ⟨_, h⟩ | ⟨_, h⟩ <;> rw [h]
  · exact owedSound_duty0 0 (by decide)
  · exact ⟨by constructor <;> simp, fun v hv => (nomatch hv), fun h => (nomatch h)⟩

theorem witness_OwedStaysInRange : quietState.owedSound ∧ ∃ t, step quietState = .next t := ⟨quietState_owedSound, ⟨_, rfl⟩⟩

theorem ticket_quietState (d : DutyIx) : (quietState.duty d).ticket = false := by
  rcases duty_quietState_cases d with ⟨_, h⟩ | ⟨_, h⟩ <;> simp [h, duty0]

theorem quietState_ticketsSound : quietState.ticketsSound := by
  refine ⟨?_, ?_, ?_, ?_⟩
  · simp [list_quietState, ticket_quietState]
  · simp [list_quietState]
  · simp [ticket_quietState]
  · intro d hd
    rcases duty_quietState_cases d with ⟨h3, h⟩ | ⟨_, h⟩
    · simp [State.targetOf, h, target_quietState, duty0, defn0, target0]
    · exact absurd (by rw [h]) hd

theorem witness_TicketsStayOnTheirLists : quietState.ticketsSound ∧ ∃ t, step quietState = .next t :=
  ⟨quietState_ticketsSound, ⟨_, rfl⟩⟩

theorem quietState_lanesSound : quietState.lanesSound := by
  intro l
  rw [lane_quietState, record_quietState]
  split <;> (unfold Lane.sound; decide)

theorem witness_LanesStaySound : quietState.lanesSound ∧ ∃ t, step quietState = .next t := ⟨quietState_lanesSound, ⟨_, rfl⟩⟩

/-- A RUNNING duty of an ACTIVE target on an OPEN lane. -/
theorem witness_EveryStepKeepsTheBlocksConsistent : quietState.consistent ∧ ∃ t, step quietState = .next t := by
  have fresh : ∀ d, (quietState.duty d).catchUp = false ∧ (quietState.duty d).inFlight = false ∧
      (quietState.duty d).retirePending = false := by
    intro d
    rcases duty_quietState_cases d with ⟨_, h⟩ | ⟨_, h⟩ <;> rw [h] <;> exact ⟨rfl, rfl, rfl⟩
  have txn : ∀ g, (quietState.target g).holdTransaction = .none := by
    intro g
    rw [target_quietState]
    split <;> rfl
  refine ⟨⟨incidentUnit_reset_sound, quietState_time_sound, quietState_owedSound, quietState_ticketsSound,
    quietState_lanesSound, ⟨?_, ?_, ?_⟩, ?_, ⟨?_, ?_, ?_, ?_⟩, ⟨?_, ?_⟩, ?_⟩, ⟨_, rfl⟩⟩
  · intro g
    rw [target_quietState]
    split <;> (unfold Target.sound; decide)
  · simp [fresh]
  · intro d hd
    rcases duty_quietState_cases d with ⟨_, h⟩ | ⟨_, h⟩
    · simp [State.targetOf, h, target_quietState, duty0, defn0, target0, HoldState.accruing]
    · rw [h] at hd
      cases hd
  · intro d
    rcases duty_quietState_cases d with ⟨_, h⟩ | ⟨_, h⟩ <;> rw [h] <;> (unfold Duty.sound; decide)
  · simp [record_quietState]
  · simp [fresh]
  · simp [txn]
  · simp [txn]
  · simp [lock_quietState]
  · intro l k d hq
    rw [lane_quietState] at hq
    split at hq <;> cases hq
  · intro d
    rw [(fresh d).2.2]
    exact ⟨fun h => (nomatch h), fun h => (nomatch h.1)⟩

end Sys2Proof.Tests
end

/-! The quiet end of a lane (R65): what it leaves in every field, and the looks that follow it. -/

namespace Sys2Proof.Machine

/-- The quiet time of the lane carries lock `k` for a duty that still holds it (R62, R65). -/
abbrev State.quietReleases (s : State) (l : LaneIx) (k : LockIx) : Prop :=
  ∃ d, (s.lane l).quietLock = some (k, d) ∧ s.lock k = some d

theorem quietReleases_iff_of_quietLock {s : State} {l : LaneIx} {g : LockIx} {d : DutyIx}
    (hcarried : (s.lane l).quietLock = some (g, d)) (k : LockIx) :
    s.quietReleases l k ↔ k = g ∧ s.lock g = some d := by
  by_cases hk : k = g
  · subst hk
    simp [State.quietReleases, hcarried]
  · simp [State.quietReleases, hcarried, hk, Ne.symm hk]

/-- The locks after the release of the one that a quiet time carries (R67). -/
theorem lock_releaseQuietLock (s : State) (l : LaneIx) (k : LockIx) :
    (s.releaseQuietLock l).lock k = if s.quietReleases l k then none else s.lock k := by
  unfold State.releaseQuietLock
  split
  next hnone => simp [State.quietReleases, hnone]
  next g d hsome =>
    simp only [lock_releaseLock, quietReleases_iff_of_quietLock hsome]

-- endQuiet

theorem lane_endQuiet (s : State) (l j : LaneIx) :
    (s.endQuiet l).lane j =
      if j = l then { s.lane l with activity := .idle, quietEnd := none, quietLock := none } else s.lane j := by
  simp [State.endQuiet]

theorem lock_endQuiet (s : State) (l : LaneIx) (k : LockIx) :
    (s.endQuiet l).lock k = if s.quietReleases l k then none else s.lock k := by
  simp only [State.endQuiet, lock_setLane, lock_releaseQuietLock]

@[simp] theorem duty_endQuiet (s : State) (l : LaneIx) (d : DutyIx) : (s.endQuiet l).duty d = s.duty d := by
  simp [State.endQuiet]

@[simp] theorem target_endQuiet (s : State) (l : LaneIx) (g : TargetIx) : (s.endQuiet l).target g = s.target g := by
  simp [State.endQuiet]

@[simp] theorem list_endQuiet (s : State) (l j : LaneIx) : (s.endQuiet l).list j = s.list j := by
  simp [State.endQuiet]

@[simp] theorem record_endQuiet (s : State) (l j : LaneIx) : (s.endQuiet l).record j = s.record j := by
  simp [State.endQuiet]

@[simp] theorem time_endQuiet (s : State) (l : LaneIx) : (s.endQuiet l).time = s.time := by
  simp [State.endQuiet]

@[simp] theorem inc_endQuiet (s : State) (l : LaneIx) : (s.endQuiet l).inc = s.inc := by
  simp [State.endQuiet]

@[simp] theorem port_endQuiet (s : State) (l : LaneIx) : (s.endQuiet l).port = s.port := by
  simp [State.endQuiet]

-- QUIET_END

/-- When a quiet end is due (R65). -/
theorem quietEndDue_iff (s : State) (l : LaneIx) :
    s.quietEndDue l = true ↔
      (s.lane l).activity = .quiet ∧ ∃ e, (s.lane l).quietEnd = some e ∧ e.toNat ≤ s.now.toNat := by
  cases hend : (s.lane l).quietEnd <;> simp [State.quietEndDue, presentAndReached, reached, hend]

theorem exec_quietEnd_of_due {s : State} {l : LaneIx} (hdue : s.quietEndDue l = true) :
    exec (.quietEnd l) s = .next ((s.endQuiet l).looksAfter s [l]) := by
  have harm : exec (.quietEnd l) s = execQuietEnd l s := rfl
  rw [harm, execQuietEnd, if_pos hdue]

/-- A due quiet end leaves `endQuiet`, and then only looks follow (R53, R65). -/
theorem leaves_endQuiet {s : State} {l : LaneIx} (hdue : s.quietEndDue l = true) :
    leaves (.quietEnd l) s (s.endQuiet l) [l] :=
  ⟨exec_quietEnd_of_due hdue, looksAfter_looked _ _ _ (List.nodup_singleton l)⟩

/-- Settles O27: `endQuiet` is what the quiet end leaves before its looks, field by field. -/
theorem quietEndFreesTheLane : Obligations.QuietEndFreesTheLane := by
  intro s l e hquiet hend hreached
  have hdue : s.quietEndDue l = true := (quietEndDue_iff s l).mpr ⟨hquiet, e, hend, hreached⟩
  refine ⟨s.endQuiet l, leaves_endQuiet hdue, ?lane, lock_endQuiet s l, ?otherLanes, duty_endQuiet s l,
    target_endQuiet s l, fun j => ⟨list_endQuiet s l j, record_endQuiet s l j⟩, time_endQuiet s l, inc_endQuiet s l,
    port_endQuiet s l⟩
  case lane => rw [lane_endQuiet, if_pos rfl]
  case otherLanes =>
    intro j hj
    rw [lane_endQuiet, if_neg hj]

end Sys2Proof.Machine

/-! RELEASE TARGET (R101, R102): how a command that names a target answers in READY, and the four rows of the release. -/

namespace Sys2Proof.Machine

-- A command taken in READY, and its Index

theorem command_of_ready {s : State} (hready : s.port.state = .ready) (code : Byte) (owner : State → Answer) :
    s.command code owner = (s.latch code).conclude (owner (s.latch code)) := by
  simp [State.command, hready]

theorem withTarget_of_index {n : Nat} {g : TargetIx} (hindex : n = g.val) (k : TargetIx → Answer) :
    withTarget n k = k g := by
  simp [withTarget, hindex]

theorem checked_of_head_fails (why : CmdResult) (rest : List (Bool × CmdResult)) (body : Answer) :
    Answer.checked ((true, why) :: rest) body = .refused why := rfl

/-- Taking a command releases no lock, so the looks after it may be counted from the state before it (R53, R62). -/
theorem looksAfter_latch (x s : State) (code : Byte) (ls : List LaneIx) :
    x.looksAfter (s.latch code) ls = x.looksAfter s ls := rfl

/-- A result recorded in READY leaves the port READY. -/
theorem refuses_of_answer {c : Instr} {code : Byte} {s : State} {owner : State → Answer} {why : CmdResult}
    (hexec : exec c s = .next (s.command code owner)) (hready : s.port.state = .ready)
    (hanswer : owner (s.latch code) = .refused why) : refuses c code s why := by
  rw [refuses, hexec, command_of_ready hready, hanswer]
  simp [State.conclude, State.recordResult, State.latch, hready]

theorem exec_of_answer_done {c : Instr} {code : Byte} {s x : State} {owner : State → Answer}
    (hexec : exec c s = .next (s.command code owner)) (hready : s.port.state = .ready)
    (hanswer : owner (s.latch code) = .done x) : exec c s = .next (x.recordResult .done) := by
  rw [hexec, command_of_ready hready, hanswer, State.conclude]

-- The answer to RELEASE TARGET (R101)

/-- The hold states in which RELEASE TARGET is taken (R101). -/
abbrev HoldState.TakesRelease (h : HoldState) : Prop := h = .entering ∨ h = .held ∨ h = .stranded

theorem exec_releaseTarget (s : State) : exec .releaseTarget s = .next (s.command 0x13 answerReleaseTarget) := rfl

theorem answerReleaseTarget_of_accepted {s : State} {g : TargetIx} (hindex : stagedIndex s.port.latched = g.val)
    (haccepted : (s.target g).holdState.TakesRelease) :
    answerReleaseTarget s =
      .done ((s.setTarget g (releasedTarget (s.target g))).looksAfter s
        (if (s.target g).holdTransaction = .entryInFlight then [] else [(s.target g).defn.lane])) := by
  rw [answerReleaseTarget, withTarget_of_index hindex]
  refine checked_of_pass _ ?_
  rcases haccepted with h | h | h <;> simp [h]

theorem answerReleaseTarget_of_refused {s : State} {g : TargetIx} (hindex : stagedIndex s.port.latched = g.val)
    (hrefused : ¬(s.target g).holdState.TakesRelease) : answerReleaseTarget s = .refused .state := by
  rw [answerReleaseTarget, withTarget_of_index hindex]
  obtain ⟨hentering, hrest⟩ := not_or.mp hrefused
  obtain ⟨hheld, hstranded⟩ := not_or.mp hrest
  simp [hentering, hheld, hstranded, checked_of_head_fails]

-- The four rows of the release (R102)

theorem releasedTarget_of_entryPending {x : Target} (hstate : x.holdState = .entering)
    (htxn : x.holdTransaction = .entryPending) :
    releasedTarget x = { x with holdState := .active, holdTransaction := .none } := by
  simp [releasedTarget, hstate, htxn]

theorem releasedTarget_of_entryInFlight {x : Target} (hstate : x.holdState = .entering)
    (htxn : x.holdTransaction = .entryInFlight) : releasedTarget x = { x with releasePending := true } := by
  simp [releasedTarget, hstate, htxn]

theorem releasedTarget_of_held {x : Target} {e : Epoch} (hstate : x.holdState = .held) (hsince : x.heldSince = some e) :
    releasedTarget x =
      { x with
        holdState := .leaving, holdTransaction := .exitPending, holdAttempts := 0, deadlineKind := .minimum
        deadline := some (satAdd e x.defn.minimumHold) } := by
  simp [releasedTarget, releasedFromHeld, hstate, hsince]

theorem releasedTarget_of_stranded {x : Target} (hstate : x.holdState = .stranded) :
    releasedTarget x =
      { x with
        holdState := .leaving, holdTransaction := .exitPending, holdAttempts := 0, deadlineKind := .none
        deadline := none } := by
  simp [releasedTarget, hstate]

-- RELEASE TARGET as a command

/-- With no entry in flight, the released target is what the command leaves before a look at its lane (R53, R101). -/
theorem doneFrom_releaseTarget {s : State} {g : TargetIx} (hready : s.port.state = .ready)
    (hindex : stagedIndex s.port.staging = g.val) (haccepted : (s.target g).holdState.TakesRelease)
    (htxn : (s.target g).holdTransaction ≠ .entryInFlight) :
    doneFrom .releaseTarget s ((s.latch 0x13).setTarget g (releasedTarget (s.target g))) [(s.target g).defn.lane] := by
  refine ⟨exec_of_answer_done (exec_releaseTarget s) hready ?_, looksAfter_looked _ _ _ (List.nodup_singleton _)⟩
  rw [answerReleaseTarget_of_accepted (s := s.latch 0x13) (g := g) hindex haccepted, looksAfter_latch, target_latch,
    if_neg htxn]

/-- A release of an entry in flight prompts no look (R102). -/
theorem exec_releaseTarget_of_entryInFlight {s : State} {g : TargetIx} (hready : s.port.state = .ready)
    (hindex : stagedIndex s.port.staging = g.val) (hstate : (s.target g).holdState = .entering)
    (htxn : (s.target g).holdTransaction = .entryInFlight) :
    exec .releaseTarget s =
      .next (((s.latch 0x13).setTarget g { s.target g with releasePending := true }).recordResult .done) := by
  refine exec_of_answer_done (exec_releaseTarget s) hready ?_
  rw [answerReleaseTarget_of_accepted (s := s.latch 0x13) (g := g) hindex (.inl hstate), target_latch, if_pos htxn,
    looksAfter_of_lock_eq _ (lock_setTarget _ _ _), looks_nil, releasedTarget_of_entryInFlight hstate htxn]

theorem refuses_releaseTarget {s : State} {g : TargetIx} (hready : s.port.state = .ready)
    (hindex : stagedIndex s.port.staging = g.val) (hrefused : ¬(s.target g).holdState.TakesRelease) :
    refuses .releaseTarget 0x13 s .state :=
  refuses_of_answer (exec_releaseTarget s) hready
    (answerReleaseTarget_of_refused (s := s.latch 0x13) hindex hrefused)

/-- Settles O46: each accepted hold state by its row of R102, and the other four refused. -/
theorem releaseTargetByState : Obligations.ReleaseTargetByState := by
  intro s g hready hindex
  refine ⟨?entryPending, exec_releaseTarget_of_entryInFlight hready hindex, ?held, ?stranded, ?refused⟩
  case entryPending =>
    intro hstate htxn
    rw [← releasedTarget_of_entryPending hstate htxn]
    exact doneFrom_releaseTarget hready hindex (.inl hstate) (by simp [htxn])
  case held =>
    intro e hstate htxn hsince
    rw [← releasedTarget_of_held hstate hsince]
    exact doneFrom_releaseTarget hready hindex (.inr (.inl hstate)) (by simp [htxn])
  case stranded =>
    intro hstate htxn
    rw [← releasedTarget_of_stranded hstate]
    exact doneFrom_releaseTarget hready hindex (.inr (.inr hstate)) (by simp [htxn])
  case refused =>
    rintro (h | h | h | h) <;> exact refuses_releaseTarget hready hindex (by simp [h])

end Sys2Proof.Machine

/-! The lane commands that open a gate (R119, R123, R129), BLACKOUT LANE (R122), and the deadlines that open a gate (R123,
R128): how each answers or acts, and the looks that follow. -/

namespace Sys2Proof.Machine

-- A lane command taken in READY, and an event that releases no lock

theorem withLane_of_index {n : Nat} {l : LaneIx} (hindex : n = l.val) (k : LaneIx → Answer) : withLane n k = k l := by
  simp [withLane, hindex]

theorem checked_singleton (fails : Bool) (why : CmdResult) (body : Answer) :
    Answer.checked [(fails, why)] body = if fails = true then .refused why else body := by
  cases fails <;> rfl

/-- A command whose answer looks at lanes after `x` is done from `x` (R53, R166). -/
theorem doneFrom_of_answer {c : Instr} {code : Byte} {s x : State} {owner : State → Answer} {ls : List LaneIx}
    (hexec : exec c s = .next (s.command code owner)) (hready : s.port.state = .ready) (hlanes : ls.Nodup)
    (hanswer : owner (s.latch code) = .done (x.looksAfter (s.latch code) ls)) : doneFrom c s x ls :=
  ⟨exec_of_answer_done hexec hready hanswer, looksAfter_looked x s ls hlanes⟩

/-- An event that releases no lock leaves what its own looks begin from (R53, R62). -/
theorem leaves_of_lock_eq {c : Instr} {s x : State} {ls : List LaneIx} (hexec : exec c s = .next (x.looks ls))
    (hlanes : ls.Nodup) (hlock : ∀ k, x.lock k = s.lock k) : leaves c s x ls :=
  ⟨by rw [hexec, looksAfter_of_lock_eq ls hlock], looksAfter_looked x s ls hlanes⟩

theorem presentAndReached_iff (now : Epoch) (deadline : Option Epoch) :
    presentAndReached now deadline = true ↔ ∃ e, deadline = some e ∧ e.toNat ≤ now.toNat := by
  cases deadline <;> simp [presentAndReached, reached]

-- OPEN LANE (R119)

theorem exec_openLane (s : State) : exec .openLane s = .next (s.command 0x21 answerOpenLane) := rfl

theorem answerOpenLane_of_index {s : State} {l : LaneIx} (hindex : stagedIndex s.port.latched = l.val) :
    answerOpenLane s =
      if (s.lane l).configured = false ∨ (s.lane l).gate ≠ .closed then .refused .state
      else .done ((s.setLane l { s.lane l with gate := .opened, integrityCount := 0, activity := .idle }).looksAfter s
        [l]) := by
  rw [answerOpenLane, withLane_of_index hindex, checked_singleton]
  simp

/-- Settles O51: OPEN LANE is taken exactly for a lane that is CONFIGURED and CLOSED. -/
theorem openLaneOpensTheGate : Obligations.OpenLaneOpensTheGate := by
  intro s l hready hindex
  have hanswer := answerOpenLane_of_index (s := s.latch 0x21) hindex
  constructor
  · intro hconfigured hclosed
    exact doneFrom_of_answer (exec_openLane s) hready (List.nodup_singleton l)
      (hanswer.trans (if_neg (by simp [hconfigured, hclosed])))
  · intro hrefused
    exact refuses_of_answer (exec_openLane s) hready (hanswer.trans (if_pos hrefused))

-- BLACKOUT LANE (R122)

theorem exec_blackoutLane (s : State) : exec .blackoutLane s = .next (s.command 0x23 answerBlackoutLane) := rfl

theorem pressedOnLane_iff (s : State) (l : LaneIx) :
    s.pressedOnLane l = true ↔
      ∃ d, (s.duty d).state = .running ∧ s.laneOf d = l ∧ (s.duty d).owed = (s.duty d).defn.deferLimit + 1 := by
  simp [State.pressedOnLane, allDuties, Duty.atLimit, and_assoc]

/-- BLACKOUT LANE with every check of R122 passed. -/
theorem answerBlackoutLane_of_accepted {s : State} {l : LaneIx} (hindex : stagedIndex s.port.latched = l.val)
    (hgate : (s.lane l).gate = .opened ∨ (s.lane l).gate = .blackout)
    (hpressed : stagedYield s.port.latched = true → s.pressedOnLane l = false)
    (hlength : 1 ≤ stagedLength s.port.latched) :
    answerBlackoutLane s =
      .done (s.setLane l
        { s.lane l with
          gate := .blackout
          blackoutEnd := some (satAdd s.now (stagedLength s.port.latched))
          yielding := stagedYield s.port.latched }) := by
  have hstate : (s.lane l).gate ≠ .closed ∧ (s.lane l).gate ≠ .suspect := by
    rcases hgate with h | h <;> simp [h]
  rw [answerBlackoutLane, withLane_of_index hindex]
  exact checked_of_pass _ (by simpa [hstate, Nat.ne_of_gt hlength] using hpressed)

/-- A begun blackout prompts no look, and records DONE (R122, R166). -/
theorem exec_blackoutLane_of_accepted {s : State} {l : LaneIx} (hready : s.port.state = .ready)
    (hindex : stagedIndex s.port.staging = l.val) (hlength : 1 ≤ stagedLength s.port.staging)
    (hgate : (s.lane l).gate = .opened ∨ (s.lane l).gate = .blackout)
    (hpressed : stagedYield s.port.staging = true → s.pressedOnLane l = false) :
    exec .blackoutLane s =
      .next (((s.latch 0x23).setLane l
        { s.lane l with
          gate := .blackout
          blackoutEnd := some (satAdd s.now (stagedLength s.port.staging))
          yielding := stagedYield s.port.staging }).recordResult .done) :=
  exec_of_answer_done (exec_blackoutLane s) hready
    (answerBlackoutLane_of_accepted (s := s.latch 0x23) hindex hgate hpressed hlength)

-- RESUME LANE and the Blackout end (R123)

theorem exec_resumeLane (s : State) : exec .resumeLane s = .next (s.command 0x24 answerResumeLane) := rfl

theorem answerResumeLane_of_index {s : State} {l : LaneIx} (hindex : stagedIndex s.port.latched = l.val) :
    answerResumeLane s =
      if (s.lane l).gate ≠ .blackout then .refused .state
      else .done ((s.setLane l (resumedLane (s.lane l))).looksAfter s [l]) := by
  rw [answerResumeLane, withLane_of_index hindex, checked_singleton]
  simp

theorem blackoutEndDue_iff (s : State) (l : LaneIx) :
    s.blackoutEndDue l = true ↔
      (s.lane l).gate = .blackout ∧ ∃ e, (s.lane l).blackoutEnd = some e ∧ e.toNat ≤ s.now.toNat := by
  rw [State.blackoutEndDue, Bool.and_eq_true, decide_eq_true_iff, presentAndReached_iff]

theorem exec_blackoutEnd_of_due {s : State} {l : LaneIx} (hdue : s.blackoutEndDue l = true) :
    exec (.blackoutEnd l) s = .next ((s.setLane l (resumedLane (s.lane l))).looks [l]) := by
  have harm : exec (.blackoutEnd l) s = execBlackoutEnd l s := rfl
  rw [harm, execBlackoutEnd, if_pos hdue]

/-- Settles O28: the beginning of a blackout, and its two ends, both `resumedLane`. -/
theorem blackoutBeginsAndEnds : Obligations.BlackoutBeginsAndEnds := by
  refine ⟨?begins, ?resumed, ?reached⟩
  case begins =>
    intro s l hready hindex hlength hgate hnone
    refine exec_blackoutLane_of_accepted hready hindex hlength hgate fun hyield => ?_
    rw [Bool.eq_false_iff, ne_eq, pressedOnLane_iff]
    rintro ⟨d, hrunning, hlane, howed⟩
    exact hnone hyield d hrunning hlane howed
  case resumed =>
    intro s l hready hindex
    have hanswer := answerResumeLane_of_index (s := s.latch 0x24) hindex
    constructor
    · intro hblackout
      exact doneFrom_of_answer (exec_resumeLane s) hready (List.nodup_singleton l)
        (hanswer.trans (if_neg (not_not_intro hblackout)))
    · intro hother
      exact refuses_of_answer (exec_resumeLane s) hready (hanswer.trans (if_pos hother))
  case reached =>
    intro s l e hblackout hend hreached
    have hdue : s.blackoutEndDue l = true := (blackoutEndDue_iff s l).mpr ⟨hblackout, e, hend, hreached⟩
    exact leaves_of_lock_eq (exec_blackoutEnd_of_due hdue) (List.nodup_singleton l) (lock_setLane s l _)

-- CLEAR SUSPECT (R129) and the auto-resume (R128)

theorem exec_clearSuspect (s : State) : exec .clearSuspect s = .next (s.command 0x25 answerClearSuspect) := rfl

theorem answerClearSuspect_of_index {s : State} {l : LaneIx} (hindex : stagedIndex s.port.latched = l.val) :
    answerClearSuspect s =
      if (s.lane l).gate ≠ .suspect then .refused .state
      else .done ((s.setLane l
        { s.lane l with gate := .opened, integrityCount := 0, latched := false, recoveryEnd := none }).looksAfter s
          [l]) := by
  rw [answerClearSuspect, withLane_of_index hindex, checked_singleton]
  simp

theorem recoveryDue_iff (s : State) (l : LaneIx) :
    s.recoveryDue l = true ↔
      (s.lane l).gate = .suspect ∧ ∃ e, (s.lane l).recoveryEnd = some e ∧ e.toNat ≤ s.now.toNat := by
  rw [State.recoveryDue, Bool.and_eq_true, decide_eq_true_iff, presentAndReached_iff]

theorem exec_autoResume_of_due {s : State} {l : LaneIx} (hdue : s.recoveryDue l = true) :
    exec (.autoResume l) s =
      .next (((s.setLane l { s.lane l with gate := .opened, recoveryEnd := none }).setLaneCause).looks [l]) := by
  have harm : exec (.autoResume l) s = execAutoResume l s := rfl
  rw [harm, execAutoResume, if_pos hdue]

/-- Settles O29: the auto-resume by its due deadline, and CLEAR SUSPECT by the gate. -/
theorem suspensionEnds : Obligations.SuspensionEnds := by
  refine ⟨?autoResume, ?clearSuspect⟩
  case autoResume =>
    intro s l e hsuspect hend hreached
    have hdue : s.recoveryDue l = true := (recoveryDue_iff s l).mpr ⟨hsuspect, e, hend, hreached⟩
    exact leaves_of_lock_eq (exec_autoResume_of_due hdue) (List.nodup_singleton l) fun _ => rfl
  case clearSuspect =>
    intro s l hready hindex
    have hanswer := answerClearSuspect_of_index (s := s.latch 0x25) hindex
    constructor
    · intro hsuspect
      exact doneFrom_of_answer (exec_clearSuspect s) hready (List.nodup_singleton l)
        (hanswer.trans (if_neg (not_not_intro hsuspect)))
    · intro hother
      exact refuses_of_answer (exec_clearSuspect s) hready (hanswer.trans (if_pos hother))

end Sys2Proof.Machine

/-! The time base (chapter 7): what a write to TRIM_VALUE or TRIM_WINDOW holds (R145), what every command can do to the time
base, and the latch behind EPOCH_MID and EPOCH_HI (R147). -/

namespace Sys2Proof.Machine

-- What the host reads of the time base

theorem busReads_epochMid (s : State) : s.busReads 0x51 = s.time.latchMid := rfl

theorem busReads_epochHi (s : State) : s.busReads 0x52 = s.time.latchHi := rfl

theorem busReads_trimValue (s : State) : s.busReads 0x53 = BitVec.ofInt 16 s.time.writtenTrim := rfl

theorem busReads_trimWindow (s : State) : s.busReads 0x54 = s.time.writtenWindow.code := rfl

/-- The three parts of an epoch value are the whole of it (R147, R177). -/
theorem epochOfWords_epochWord (e : Epoch) : epochOfWords (epochWord e 0) (epochWord e 1) (epochWord e 2) = e := by
  apply BitVec.eq_of_toNat_eq
  have hlt := e.isLt
  rw [epochOfWords_toNat]
  simp only [epochWord, BitVec.extractLsb'_toNat, Nat.shiftRight_eq_div_pow]
  omega

-- TRIM_VALUE (R145)

theorem clampTrim_of_gt {v : Int} (h : 1023 < v) : clampTrim v = 1023 := if_pos h

theorem clampTrim_of_lt {v : Int} (h : v < -1024) : clampTrim v = -1024 := by
  rw [clampTrim, if_neg (by omega), if_pos h]

theorem clampTrim_of_mem {v : Int} (hlow : -1024 ≤ v) (hhigh : v ≤ 1023) : clampTrim v = v := by
  rw [clampTrim, if_neg (by omega), if_neg (by omega)]

theorem clampTrim_bounds (v : Int) : -1024 ≤ clampTrim v ∧ clampTrim v ≤ 1023 := by
  unfold clampTrim
  split_ifs <;> omega

/-- A held trim fits the word in which it is read back. -/
theorem toInt_ofInt_clampTrim (v : Int) : (BitVec.ofInt 16 (clampTrim v)).toInt = clampTrim v := by
  obtain ⟨hlow, hhigh⟩ := clampTrim_bounds v
  exact BitVec.toInt_ofInt_eq_self (by decide) (by omega) (by omega)

-- TRIM_WINDOW (R145, R179)

theorem windowOfWord_of_code {v : Word} {w : TrimWindow} (h : v.toNat % 4 = w.code.toNat) : windowOfWord v = some w := by
  cases w <;> simp [windowOfWord, fieldOf, h, TrimWindow.code]

theorem windowOfWord_of_three {v : Word} (h : v.toNat % 4 = 3) : windowOfWord v = none := by
  simp [windowOfWord, fieldOf, h]

theorem exists_window_of_ne_three {v : Word} (h : v.toNat % 4 ≠ 3) : ∃ w : TrimWindow, v.toNat % 4 = w.code.toNat := by
  have hcases : v.toNat % 4 = 0 ∨ v.toNat % 4 = 1 ∨ v.toNat % 4 = 2 := by omega
  rcases hcases with h0 | h1 | h2
  · exact ⟨.w18, h0⟩
  · exact ⟨.w20, h1⟩
  · exact ⟨.w22, h2⟩

theorem TimeBase.writeWindow_of_code (a : TimeBase) {v : Word} {w : TrimWindow} (h : v.toNat % 4 = w.code.toNat) :
    a.writeWindow v = { a with writtenWindow := w } := by
  rw [TimeBase.writeWindow, windowOfWord_of_code h]

theorem TimeBase.writeWindow_of_three (a : TimeBase) {v : Word} (h : v.toNat % 4 = 3) : a.writeWindow v = a := by
  rw [TimeBase.writeWindow, windowOfWord_of_three h]

theorem exec_trimValueWrite (v : Word) (s : State) : exec (.trimValueWrite v) s = .next (s.writeTrim v) := rfl

theorem exec_trimWindowWrite (v : Word) (s : State) : exec (.trimWindowWrite v) s = .next (s.writeWindow v) := rfl

theorem writtenWindow_writeWindow (s : State) {v : Word} {w : TrimWindow} (h : v.toNat % 4 = w.code.toNat) :
    (s.writeWindow v).time.writtenWindow = w := by
  rw [time_writeWindow, TimeBase.writeWindow_of_code s.time h]

/-- Neither RESET nor SCHEDULER RESET touches the time base (R149). -/
theorem time_of_reset {s t : State} (h : exec .reset s = .next t ∨ exec .schedulerReset s = .next t) : t.time = s.time := by
  rcases h with h | h
  · obtain rfl := Host.Outcome.next.inj h
    rfl
  · obtain rfl := Host.Outcome.next.inj h
    exact (schedulerReset_keeps s).1

/-- Settles O13: the trim by `clampTrim`, the window by its code, and neither reset touches the time base. -/
theorem trimWrites : Obligations.TrimWrites := by
  refine ⟨?trim, ?window, ?resets⟩
  case trim =>
    intro v s
    exact ⟨s.writeTrim v, clampTrim v.toInt, exec_trimValueWrite v s, rfl, clampTrim_of_gt, clampTrim_of_lt,
      clampTrim_of_mem, toInt_ofInt_clampTrim v.toInt, rfl⟩
  case window =>
    intro v s
    refine ⟨s.writeWindow v, exec_trimWindowWrite v s, ?named, writtenWindow_writeWindow s (w := .w18),
      writtenWindow_writeWindow s (w := .w20), writtenWindow_writeWindow s (w := .w22), ?unnamed, rfl⟩
    case named =>
      intro hne
      obtain ⟨w, hcode⟩ := exists_window_of_ne_three hne
      rw [busReads_trimWindow, writtenWindow_writeWindow s hcode, hcode]
      exact ⟨TimeBase.writeWindow_of_code s.time hcode, rfl⟩
    case unnamed =>
      intro hthree
      rw [State.writeWindow, TimeBase.writeWindow_of_three s.time hthree]
  case resets =>
    intro s t h
    rw [time_of_reset h]
    exact ⟨rfl, rfl⟩

-- What a command can do to the time base (R142 to R150)

/-- What every command but EPOCH_LO_READ and POWER_ON can do to the time base: nothing, one REFCLK cycle, or a write to a trim
register. -/
inductive TimeBase.Moves (a : TimeBase) : TimeBase → Prop
  | stays : a.Moves a
  | cycle : a.Moves a.cycle
  | writeTrim (v : Word) : a.Moves (a.writeTrim v)
  | writeWindow (v : Word) : a.Moves (a.writeWindow v)

theorem TimeBase.Moves.of_eq {a b : TimeBase} (h : b = a) : a.Moves b := h ▸ .stays

theorem time_refclkCycle (s : State) : s.refclkCycle.time = s.time.cycle := by
  unfold State.refclkCycle
  dsimp only
  split
  · exact time_markTick _
  · rfl

theorem moves_refclkCycle (s : State) : s.time.Moves s.refclkCycle.time := time_refclkCycle s ▸ .cycle

/-- A row of the time base is one REFCLK cycle, or nothing (log 3). -/
theorem moves_refclkCycle_if (s : State) (p : Bool) : s.time.Moves (if p = true then s.refclkCycle else s).time := by
  cases p
  · exact .stays
  · exact moves_refclkCycle s

theorem time_writeStaging (s : State) (n : Nat) (v : Word) : (s.writeStaging n v).time = s.time := by
  unfold State.writeStaging
  split <;> rfl

theorem moves_busWrite (s : State) (reg : BitVec 7) (v : Word) : s.time.Moves (s.busWrite reg v).time := by
  unfold State.busWrite
  dsimp only
  split_ifs
  · exact .of_eq (writeCommand_keeps s (lowByte v)).1
  · exact .of_eq (time_clearCollision s)
  · exact .of_eq (time_writeStaging s _ v)
  · exact .of_eq (time_popIncident s)
  · exact .of_eq (time_writeSummary s v)
  · exact .of_eq (time_writeEnable s v)
  · exact .writeTrim v
  · exact .writeWindow v
  · exact .stays

/-- The command of a code is the write of that code to COMMAND (Table 10-3; log 6). -/
theorem exec_of_code {c : Instr} {code : Byte} (h : codeOf c = some code) (s : State) :
    exec c s = .next (s.writeCommand code) := by
  cases c <;> cases h <;> rfl

-- Events of deadlines and of frames

@[simp] theorem time_missBoundary (s : State) (d : DutyIx) : (s.missBoundary d).time = s.time := by
  unfold State.missBoundary
  dsimp only
  split <;> simp

@[simp] theorem time_boundaryAt (s : State) (d : DutyIx) (b : Epoch) : (s.boundaryAt d b).time = s.time := by
  unfold State.boundaryAt
  dsimp only
  split_ifs <;> simp

@[simp] theorem time_endWith (s : State) (l : LaneIx) (r : InFlight) (o : Outcome) (good : Bool) :
    (s.endWith l r o good).time = s.time := by
  simp [State.endWith]

@[simp] theorem time_readPending (s : State) (l : LaneIx) (r : InFlight) : (s.readPending l r).time = s.time := by
  unfold State.readPending
  dsimp only
  split <;> simp

@[simp] theorem time_readStatus (s : State) (l : LaneIx) (r : InFlight) (value : Byte) :
    (s.readStatus l r value).time = s.time := by
  unfold State.readStatus
  split_ifs <;> simp

/-- Commands, register writes and events: only REFCLK cycles and the two trim registers move the time base (R145, R149, R150). -/
theorem moves_exec {c : Instr} (hread : c ≠ .epochLoRead) (hpower : c ≠ .powerOn) (s : State) :
    ∃ t, exec c s = .next t ∧ s.time.Moves t.time := by
  cases c with
  | epochLoRead => exact absurd rfl hread
  | powerOn => exact absurd rfl hpower
  | defineDuty | startDuty | stopDuty | retireDuty | reviveDuty | setOwed | prodDuty | snapshotDuty
  | defineTarget | dropTarget | holdTarget | releaseTarget | snapshotTarget
  | configureLane | openLane | closeLane | blackoutLane | resumeLane | clearSuspect | abort | schedulerReset =>
    exact ⟨_, exec_of_code rfl s, .of_eq (writeCommand_keeps s _).1⟩
  | unknownCode code | commandDiscarded code => exact ⟨_, rfl, .of_eq (writeCommand_keeps s code).1⟩
  | portClear v | incidentPop v | eventSummaryWrite v | eventEnableWrite v | reset => exact ⟨_, rfl, .stays⟩
  | trimValueWrite v => exact ⟨_, rfl, .writeTrim v⟩
  | trimWindowWrite v => exact ⟨_, rfl, .writeWindow v⟩
  | registerWrite reg v => exact ⟨_, rfl, moves_busWrite s reg v⟩
  | refclkCycle => exact ⟨_, rfl, moves_refclkCycle s⟩
  | tickCompletion | windowStart | partEnd => exact ⟨_, rfl, moves_refclkCycle_if s _⟩
  | clockLineRelease l => exact ⟨_, rfl, .of_eq (time_setLane s l _)⟩
  | boundary i | startTime i | stopTime i | backoffEnd i | quietEnd i | blackoutEnd i | autoResume i
  | minimumHoldEnd i | maximumHoldEnd i | settleEnd i | statusRead i v | dataByte i v | checkByte i v
  | addressNotAcknowledged i | requestByteRefused i =>
    refine ⟨_, rfl, .of_eq ?_⟩
    split <;> simp
  | responseDeadline l =>
    refine ⟨_, rfl, .of_eq ?_⟩
    split
    · split <;> simp
    · rfl
  | clockLineHold l =>
    refine ⟨_, rfl, .of_eq ?_⟩
    split
    · split <;> simp
    · exact time_setLane s l _

-- The latch (R147)

/-- The middle and the high part that a read of EPOCH_LO has latched. -/
def TimeBase.latchedParts (a : TimeBase) : Word × Word := (a.latchMid, a.latchHi)

theorem TimeBase.latchedParts_cycle (a : TimeBase) : a.cycle.latchedParts = a.latchedParts := by
  unfold TimeBase.cycle
  dsimp only
  split_ifs <;> rfl

theorem TimeBase.latchedParts_writeWindow (a : TimeBase) (v : Word) : (a.writeWindow v).latchedParts = a.latchedParts := by
  unfold TimeBase.writeWindow
  split <;> rfl

theorem TimeBase.Moves.latchedParts_eq {a b : TimeBase} (h : a.Moves b) : b.latchedParts = a.latchedParts := by
  cases h with
  | stays => rfl
  | cycle => exact a.latchedParts_cycle
  | writeTrim v => rfl
  | writeWindow v => exact a.latchedParts_writeWindow v

/-- Settles O14: the parts latched make the epoch, and no move of the time base touches the latch. -/
theorem epochReadIsWhole : Obligations.EpochReadIsWhole := by
  refine ⟨?read, ?kept, ?powerOn⟩
  case read =>
    intro s
    exact ⟨_, rfl, rfl, busReads_epochMid _, busReads_epochHi _, epochOfWords_epochWord s.time.epoch⟩
  case kept =>
    intro c s t hread hpower hexec
    obtain ⟨t', hexec', hmoves⟩ := moves_exec hread hpower s
    obtain rfl := Host.Outcome.next.inj (hexec'.symm.trans hexec)
    rw [busReads_epochMid, busReads_epochMid, busReads_epochHi, busReads_epochHi]
    exact Prod.mk.inj hmoves.latchedParts_eq
  case powerOn =>
    intro s t hexec
    obtain rfl := Host.Outcome.next.inj hexec
    exact ⟨rfl, rfl⟩

end Sys2Proof.Machine

/-! The command port (chapter 9): what a write to COMMAND does in WORKING (R169), ABORT in READY (R172), and Collision under
PORT_CLEAR and the resets (R170). -/

namespace Sys2Proof.Machine

-- The codes (Table 10-3)

theorem commandOfCode_of_codeOf {c : Instr} {code : Byte} (h : codeOf c = some code) : commandOfCode code = some c := by
  cases c <;> cases h <;> rfl

/-- No two rows of Table 10-3 share a code. -/
theorem codeOf_inj {c d : Instr} {code : Byte} (hc : codeOf c = some code) (hd : codeOf d = some code) : c = d :=
  Option.some.inj ((commandOfCode_of_codeOf hc).symm.trans (commandOfCode_of_codeOf hd))

theorem code_ne_of_ne {c d : Instr} {x y : Byte} (hc : codeOf c = some x) (hd : codeOf d = some y) (hne : c ≠ d) :
    x ≠ y := by
  rintro rfl
  exact hne (codeOf_inj hc hd)

theorem code_ne_of_unassigned {c : Instr} {x y : Byte} (hx : commandOfCode x = none) (hc : codeOf c = some y) : x ≠ y := by
  rintro rfl
  exact Option.some_ne_none c ((commandOfCode_of_codeOf hc).symm.trans hx)

-- A code written in WORKING (R169)

theorem command_of_working {s : State} (hworking : s.port.state = .working) (code : Byte) (owner : State → Answer) :
    s.command code owner = s.discardCode := if_pos hworking

theorem unknown_of_working {s : State} (hworking : s.port.state = .working) (code : Byte) :
    s.unknown code = s.discardCode := if_pos hworking

/-- In WORKING a write to COMMAND is discarded, unless its code is that of ABORT or of SCHEDULER RESET. -/
theorem writeCommand_of_working {s : State} {code : Byte} (hworking : s.port.state = .working) (habort : code ≠ 0x30)
    (hreset : code ≠ 0x31) : s.writeCommand code = s.discardCode := by
  unfold State.writeCommand
  split
  iterate 19 · exact command_of_working hworking _ _
  · next hcode => exact absurd (BitVec.eq_of_toNat_eq hcode) habort
  · next hcode => exact absurd (BitVec.eq_of_toNat_eq hcode) hreset
  · exact unknown_of_working hworking code

theorem exec_unknownCode (code : Byte) (s : State) : exec (.unknownCode code) s = .next (s.writeCommand code) := rfl

theorem exec_commandDiscarded (code : Byte) (s : State) :
    exec (.commandDiscarded code) s = .next (s.writeCommand code) := rfl

-- ABORT (R171, R172)

theorem exec_abort (s : State) : exec .abort s = .next s.abort := rfl

theorem abort_of_ready {s : State} (hready : s.port.state = .ready) : s.abort = (s.latch 0x30).recordResult .tooLate := by
  simp [State.abort, hready]

@[simp] theorem collision_abort (s : State) : s.abort.port.collision = s.port.collision := by
  unfold State.abort
  dsimp only
  split <;> simp

theorem collision_of_abort {s t : State} (h : exec .abort s = .next t) : t.port.collision = s.port.collision := by
  obtain rfl := Host.Outcome.next.inj h
  exact collision_abort s

/-- A result recorded as soon as the code is taken in READY is a refusal. -/
theorem refuses_of_recorded {c : Instr} {code : Byte} {s : State} {why : CmdResult}
    (hexec : exec c s = .next ((s.latch code).recordResult why)) (hready : s.port.state = .ready) :
    refuses c code s why := by
  rw [refuses, hexec]
  simp [State.recordResult, State.latch, hready]

-- SCHEDULER RESET and the port (R173)

@[simp] theorem port_emptySchedule (s : State) : s.emptySchedule.port = s.port := rfl

@[simp] theorem port_resetTargets (s : State) : s.resetTargets.port = s.port := by
  unfold State.resetTargets
  exact foldl_keeps State.port _ (by simp) _ s

@[simp] theorem port_resetLanes (s : State) : s.resetLanes.port = s.port := by
  unfold State.resetLanes
  exact foldl_keeps State.port _ (by simp) _ s

@[simp] theorem port_recordStranded (s : State) (ts : List TargetIx) : (s.recordStranded ts).port = s.port := by
  unfold State.recordStranded
  exact foldl_keeps State.port _ (by simp) ts s

/-- SCHEDULER RESET is taken and DONE, in READY and in WORKING alike. -/
@[simp] theorem port_schedulerReset (s : State) :
    s.schedulerReset.port = { s.port with latched := s.port.staging, code := 0x31, result := .done, state := .ready } := by
  simp [State.schedulerReset]

theorem exec_schedulerReset (s : State) : exec .schedulerReset s = .next s.schedulerReset := rfl

theorem collision_of_schedulerReset {s t : State} (h : exec .schedulerReset s = .next t) :
    t.port.collision = s.port.collision := by
  obtain rfl := Host.Outcome.next.inj h
  rw [port_schedulerReset]

/-- Settles O3: each of the three rows is a write to COMMAND, which WORKING discards. -/
theorem workingDiscardsCodes : Obligations.WorkingDiscardsCodes := by
  refine ⟨?assigned, ?unassigned, ?discarded, ?taken⟩
  case assigned =>
    intro c code s hcode habort hreset hworking
    rw [exec_of_code hcode, writeCommand_of_working hworking (code_ne_of_ne hcode (d := .abort) rfl habort)
      (code_ne_of_ne hcode (d := .schedulerReset) rfl hreset)]
    rfl
  case unassigned =>
    intro code s hcode hworking
    rw [exec_unknownCode, writeCommand_of_working hworking (code_ne_of_unassigned hcode (c := .abort) rfl)
      (code_ne_of_unassigned hcode (c := .schedulerReset) rfl)]
    rfl
  case discarded =>
    intro code s habort hreset hworking
    rw [exec_commandDiscarded, writeCommand_of_working hworking habort hreset]
    rfl
  case taken =>
    rintro s t - (h | h)
    · exact collision_of_abort h
    · exact collision_of_schedulerReset h

/-- Settles O5: TOO-LATE is recorded as soon as ABORT is taken. -/
theorem abortInReadyIsTooLate : Obligations.AbortInReadyIsTooLate := by
  intro s hready
  have htaken : exec .abort s = .next ((s.latch 0x30).recordResult .tooLate) := by
    rw [exec_abort, abort_of_ready hready]
  exact refuses_of_recorded htaken hready

/-- Settles O11: SCHEDULER RESET keeps Collision, and RESET and power-on give the port its reset values. -/
theorem portClearClearsCollision : Obligations.PortClearClearsCollision := by
  refine ⟨?clear, fun s t => collision_of_schedulerReset, ?resets⟩
  case clear =>
    intro v s
    rfl
  case resets =>
    rintro s t (h | h)
    all_goals
      obtain rfl := Host.Outcome.next.inj h
      rfl

end Sys2Proof.Machine

/-! One traversal of `exec` for every invariant: `Kept P` lists the effects of the commands and events, and `Kept.step` says that
a predicate kept by each of them is kept by every step. -/

namespace Sys2Proof.Machine

/-- Every effect that a command or an event has on the block before its looks, and the looks, keep `P`. -/
structure Kept (P : State → Prop) : Prop where
  pending : ∀ {s} cs, P s → P { s with pending := cs }
  -- the port
  latch : ∀ {s} code, P s → s.port.state = .ready → P (s.latch code)
  result : ∀ {s} r, P s → s.port.state = .ready → P (s.recordResult r)
  discard : ∀ {s}, P s → P s.discardCode
  snapshot : ∀ {s} x, P s → P { s with port := { s.port with snapshot := x } }
  staging : ∀ {s} n v, P s → P (s.writeStaging n v)
  collision : ∀ {s}, P s → P s.clearCollision
  abort : ∀ {s}, P s → s.port.state = .working → P s.abort
  schedulerReset : ∀ {s}, P s → P s.schedulerReset
  -- the incident unit and the time base
  pop : ∀ {s}, P s → P s.popIncident
  summary : ∀ {s} v, P s → P (s.writeSummary v)
  enable : ∀ {s} v, P s → P (s.writeEnable v)
  trim : ∀ {s} v, P s → P (s.writeTrim v)
  window : ∀ {s} v, P s → P (s.writeWindow v)
  epochRead : ∀ {s} w, P s → P { s with busRead := w, time := s.time.latchEpoch }
  cycle : ∀ {s}, P s → P s.refclkCycle
  reset : ∀ {s}, P s → P s.resetPin
  powerOn : ∀ {s}, P s → P { s.resetPin with time := {}, busRead := 0 }
  -- duties
  defineDuty : ∀ {s} d, P s → (∀ c ∈ s.defineDutyChecks d, c.1 = false) →
    P (s.setDuty d { defn := dutyDefOf s.port.latched, state := .stopped })
  startWaiting : ∀ {s} d start, P s → (s.duty d).state = .stopped → (s.duty d).inFlight = false →
    P (s.setDuty d { startedDuty (s.duty d) start with state := .waiting, nextBoundary := none })
  startNow : ∀ {s} d start, P s → (s.duty d).state = .stopped → (s.duty d).inFlight = false →
    (s.targetOf d).holdState.accruing = true → P ((s.setDuty d (startedDuty (s.duty d) start)).startRunning d)
  startTime : ∀ {s} d, P s → (s.duty d).state = .waiting → (s.targetOf d).holdState.accruing = true →
    P (s.startRunning d)
  stop : ∀ {s} d, P s → (s.duty d).state ≠ .vacant → (s.duty d).state ≠ .stopped → P (s.stopDuty d)
  vacate : ∀ {s} d, P s → (s.duty d).state ≠ .vacant → (s.duty d).inFlight = false → P (s.vacateDuty d)
  retireWaits : ∀ {s x} d, P s → s.port.state = .ready → s.waitingDuty = d → (s.duty d).state ≠ .vacant →
    (s.duty d).inFlight = true → x = (if (s.duty d).state = .running then s.stopDuty d else s) →
    P { x.setDuty d { x.duty d with retirePending := true } with port := { s.port with state := .working } }
  revive : ∀ {s} d, P s → (s.duty d).state = .faulted →
    P (((s.setDuty d (s.revivedDuty d)).offerTicket d).reportIfPressed d)
  setOwed : ∀ {s} d v, P s → (s.duty d).state ≠ .vacant → (s.duty d).defn.owedInRange v → P (s.setOwed d v)
  prod : ∀ {s} d, P s → (s.duty d).state = .running →
    P ((s.setDuty d { s.duty d with forced := true }).offerTicket d)
  clearCounts : ∀ {s} d, P s → P (s.setDuty d { s.duty d with completions := 0, misses := 0 })
  boundary : ∀ {s} d b, P s → s.accrues d = true → P (s.boundaryAt d b)
  -- targets
  defineTarget : ∀ {s} t, P s → (s.target t).holdState = .undefined ∨ (s.target t).holdState = .active →
    ((s.target t).holdState = .active → s.inUse t = false) →
    P (s.setTarget t { defn := targetDefOf s.port.latched, holdState := .active })
  dropTarget : ∀ {s} t, P s → (s.target t).holdState ≠ .entering → (s.target t).holdState ≠ .leaving →
    s.inUse t = false → P (s.setTarget t {})
  holdTarget : ∀ {s} t, P s → (s.target t).holdState = .active → s.catchUpPending t = false →
    P (s.setTarget t { s.target t with
      holdState := .entering, holdTransaction := .entryPending, holdAttempts := 0, releasePending := false })
  releaseTarget : ∀ {s} t, P s → (s.target t).holdState.TakesRelease →
    P (s.setTarget t (releasedTarget (s.target t)))
  maximumHold : ∀ {s} t i, P s → (s.target t).holdState = .held →
    P ((s.setTarget t (expiredTarget (s.target t))).passIncident i).setHoldCause
  settled : ∀ {s} t, P s → (s.target t).holdState = .settling →
    P (s.setTarget t { s.target t with holdState := .active, deadlineKind := .none, deadline := none })
  -- lanes
  configure : ∀ {s} l c, P s → (s.lane l).gate = .closed → P (s.setLane l (configuredLane (s.lane l) c))
  openLane : ∀ {s} l, P s → (s.lane l).gate = .closed →
    P (s.setLane l { s.lane l with gate := .opened, integrityCount := 0, activity := .idle })
  closeLane : ∀ {s} l, P s → s.record l = none →
    P ((s.releaseQuietLock l).setLane l (closedLane ((s.releaseQuietLock l).lane l)))
  blackout : ∀ {s} l e y, P s → (s.lane l).gate ≠ .closed → (s.lane l).gate ≠ .suspect →
    P (s.setLane l { s.lane l with gate := .blackout, blackoutEnd := some e, yielding := y })
  resume : ∀ {s} l, P s → (s.lane l).gate = .blackout → P (s.setLane l (resumedLane (s.lane l)))
  clearSuspect : ∀ {s} l, P s → (s.lane l).gate = .suspect →
    P (s.setLane l { s.lane l with gate := .opened, integrityCount := 0, latched := false, recoveryEnd := none })
  autoResume : ∀ {s} l, P s → (s.lane l).gate = .suspect → (s.lane l).recoveryEnd.isSome = true →
    P (s.setLane l { s.lane l with gate := .opened, recoveryEnd := none }).setLaneCause
  quietEnd : ∀ {s} l, P s → (s.lane l).activity = .quiet → P (s.endQuiet l)
  clockLine : ∀ {s} l h w p, P s → P (s.setLane l { s.lane l with lineHeld := h, stopWaiting := w, pins := p })
  -- transactions
  record : ∀ {s} l (r q : InFlight), P s → s.record l = some r → q.kind = r.kind → q.target = r.target →
    q.attempt = r.attempt → P (s.setRecord l (some q))
  outcome : ∀ {s} l r o good, P s → s.record l = some r → P (s.takeOutcome l r o good)
  looks : ∀ {s} ls, P s → ls.Nodup → P (s.looks ls)

theorem firstFailure_eq_none_iff (cs : List (Bool × CmdResult)) : firstFailure cs = none ↔ ∀ c ∈ cs, c.1 = false := by
  refine ⟨fun h c hc => ?_, firstFailure_none⟩
  induction cs with
  | nil => cases hc
  | cons head rest ih =>
    obtain ⟨b, r⟩ := head
    cases b with
    | true => cases h
    | false =>
      rcases List.mem_cons.mp hc with rfl | hc
      · rfl
      · exact ih h hc

/-- What an owner's answer in READY leaves keeps `P`, once the port has concluded the command (R164, R167). -/
def Answer.Holds (P : State → Prop) : Answer → Prop
  | .done t => P t ∧ t.port.state = .ready
  | .refused _ => True
  | .waits t => P { t with port := { t.port with state := .working } }

variable {P : State → Prop}

theorem Answer.holds_checked {cs : List (Bool × CmdResult)} {a : Answer} (h : (∀ c ∈ cs, c.1 = false) → a.Holds P) :
    (Answer.checked cs a).Holds P := by
  unfold Answer.checked
  split
  · trivial
  · exact h ((firstFailure_eq_none_iff cs).mp ‹_›)

theorem Answer.holds_withDuty {n : Nat} {k : DutyIx → Answer} (h : ∀ d, n = d.val → (k d).Holds P) :
    (withDuty n k).Holds P := by
  unfold withDuty
  split
  · exact h _ rfl
  · trivial

theorem Answer.holds_withTarget {n : Nat} {k : TargetIx → Answer} (h : ∀ g, (k g).Holds P) :
    (withTarget n k).Holds P := by
  unfold withTarget
  split
  · exact h _
  · trivial

theorem Answer.holds_withLane {n : Nat} {k : LaneIx → Answer} (h : ∀ l, (k l).Holds P) : (withLane n k).Holds P := by
  unfold withLane
  split
  · exact h _
  · trivial

/-- The waiting duty is that of the latched Index (R165; log 15). -/
theorem waitingDuty_of_index {s : State} {d : DutyIx} (h : stagedIndex s.port.latched = d.val) : s.waitingDuty = d := by
  simp [State.waitingDuty, h]

/-- The end of a waiting RETIRE DUTY makes the port READY, and no other outcome touches it (R168). -/
theorem portState_takeOutcome {s : State} (l : LaneIx) (r : InFlight) (o : Outcome) (good : Bool)
    (h : s.port.state = .ready) : (s.takeOutcome l r o good).port.state = .ready := by
  unfold State.takeOutcome State.completeRetire
  split
  · split
    · rfl
    · simpa using h
  · simpa using h
  · simpa using h

theorem portState_closeLane {s : State} (l : LaneIx) (h : s.port.state = .ready) : (s.closeLane l).port.state = .ready := by
  unfold State.closeLane
  dsimp only
  split
  · simpa using h
  · simpa using portState_takeOutcome l _ _ _ h

namespace Kept

variable (K : Kept P)
include K

theorem looksAfter {x : State} (s : State) (ls : List LaneIx) (hx : P x) (hls : ls.Nodup) : P (x.looksAfter s ls) := by
  unfold State.looksAfter
  split
  · exact K.looks _ hx allLanes_nodup
  · exact K.looks _ hx hls

theorem looksAfter_single {x : State} (s : State) (l : LaneIx) (hx : P x) : P (x.looksAfter s [l]) :=
  K.looksAfter s _ hx (List.nodup_singleton l)

theorem done {x s : State} (ls : List LaneIx) (hx : P x) (hls : ls.Nodup) (hready : x.port.state = .ready) :
    (Answer.done (x.looksAfter s ls)).Holds P :=
  ⟨K.looksAfter s ls hx hls, by simpa using hready⟩

-- The owners' answers in READY

variable {s : State} (hs : P s) (hready : s.port.state = .ready)
include hs hready

theorem answerDefineDuty : (answerDefineDuty s).Holds P :=
  Answer.holds_withDuty fun d _ => Answer.holds_checked fun hc => ⟨K.defineDuty d hs hc, hready⟩

theorem answerStartDuty : (answerStartDuty s).Holds P := by
  refine Answer.holds_withDuty fun d _ => Answer.holds_checked fun hc => ?_
  have hstate : (s.duty d).state = .stopped := by simpa using hc _ (List.mem_cons_self ..)
  have hflight : (s.duty d).inFlight = false := by simpa [State.startDutyChecks] using hc ((s.duty d).inFlight, .state)
  refine K.done _ ?_ (List.nodup_singleton _) ?_
  · split
    · exact K.startWaiting d _ hs hstate hflight
    · rename_i hwaits
      have haccruing : (s.targetOf d).holdState.accruing = true := by
        simp only [State.startWaits, Bool.not_eq_true, Bool.or_eq_false_iff, Bool.not_eq_false'] at hwaits
        exact hwaits.2
      exact K.startNow d _ hs hstate hflight haccruing
  · split <;> simpa using hready

theorem answerStopDuty : (answerStopDuty s).Holds P := by
  refine Answer.holds_withDuty fun d _ => Answer.holds_checked fun hc => ?_
  have hstate : (s.duty d).state ≠ .vacant ∧ (s.duty d).state ≠ .stopped := by simpa using hc _ (List.mem_cons_self ..)
  exact K.done _ (K.stop d hs hstate.1 hstate.2) (List.nodup_singleton _) (by simpa using hready)

theorem answerRetireDuty : (answerRetireDuty s).Holds P := by
  refine Answer.holds_withDuty fun d hd => Answer.holds_checked fun hc => ?_
  have hstate : (s.duty d).state ≠ .vacant := by simpa using hc _ (List.mem_cons_self ..)
  split
  · rename_i hflight
    have hkept := K.retireWaits d hs hready (waitingDuty_of_index hd) hstate hflight rfl
    dsimp only [Answer.Holds]
    split at hkept <;> simpa [*] using hkept
  · rename_i hflight
    exact K.done _ (K.vacate d hs hstate (by simpa using hflight)) (List.nodup_singleton _) (by simpa using hready)

theorem answerReviveDuty : (answerReviveDuty s).Holds P := by
  refine Answer.holds_withDuty fun d _ => Answer.holds_checked fun hc => ?_
  have hstate : (s.duty d).state = .faulted := by simpa using hc _ (List.mem_cons_self ..)
  exact K.done _ (K.revive d hs hstate) (List.nodup_singleton _) (by simpa using hready)

theorem answerSetOwed : (answerSetOwed s).Holds P := by
  refine Answer.holds_withDuty fun d _ => Answer.holds_checked fun hc => ?_
  have hstate : (s.duty d).state ≠ .vacant := by simpa using hc _ (List.mem_cons_self ..)
  have hrange : (s.duty d).defn.owedInRange (stagedOwed s.port.latched) := by
    simpa [owedOutside, DutyDef.owedInRange] using hc _ (List.mem_cons_of_mem _ (List.mem_cons_self ..))
  refine K.done _ (K.setOwed d _ hs hstate hrange) ?_ (by simpa using hready)
  split
  · exact List.nodup_nil
  · exact List.nodup_singleton _

theorem answerProdDuty : (answerProdDuty s).Holds P := by
  refine Answer.holds_withDuty fun d _ => Answer.holds_checked fun hc => ?_
  have hstate : (s.duty d).state = .running := by simpa using hc _ (List.mem_cons_self ..)
  split
  · exact ⟨hs, hready⟩
  · exact K.done _ (K.prod d hs hstate) (List.nodup_singleton _) (by simpa using hready)

theorem answerSnapshotDuty : (answerSnapshotDuty s).Holds P := by
  refine Answer.holds_withDuty fun d _ => ?_
  dsimp only [Answer.Holds]
  split
  · exact ⟨K.clearCounts d (K.snapshot _ hs), hready⟩
  · exact ⟨K.snapshot _ hs, hready⟩

theorem answerDefineTarget : (answerDefineTarget s).Holds P := by
  refine Answer.holds_withTarget fun g => Answer.holds_checked fun hc => ⟨K.defineTarget g hs ?_ ?_, hready⟩
  · have h := hc _ (List.mem_cons_self ..)
    by_cases hu : (s.target g).holdState = .undefined
    · exact .inl hu
    · exact .inr (by simpa [hu] using h)
  · intro hactive
    simpa [hactive] using hc _ (List.mem_cons_of_mem _ (List.mem_cons_self ..))

theorem answerDropTarget : (answerDropTarget s).Holds P := by
  refine Answer.holds_withTarget fun g => Answer.holds_checked fun hc => ?_
  have hstate := hc _ (List.mem_cons_self ..)
  have huse : s.inUse g = false := by simpa using hc _ (List.mem_cons_of_mem _ (List.mem_cons_self ..))
  simp only [Bool.or_eq_false_iff, decide_eq_false_iff_not] at hstate
  exact ⟨K.dropTarget g hs hstate.1.2 hstate.2 huse, hready⟩

theorem answerHoldTarget : (answerHoldTarget s).Holds P := by
  refine Answer.holds_withTarget fun g => Answer.holds_checked fun hc => ?_
  have hstate : (s.target g).holdState = .active := by simpa using hc _ (List.mem_cons_self ..)
  have hcatch : s.catchUpPending g = false := by simpa using hc _ (List.mem_cons_of_mem _ (List.mem_cons_self ..))
  exact K.done _ (K.holdTarget g hs hstate hcatch) (List.nodup_singleton _) hready

theorem answerReleaseTarget : (answerReleaseTarget s).Holds P := by
  refine Answer.holds_withTarget fun g => Answer.holds_checked fun hc => ?_
  have hstate : (s.target g).holdState.TakesRelease := by
    have h := hc _ (List.mem_cons_self ..)
    simp only [Bool.and_eq_false_iff, decide_eq_false_iff_not, not_not, or_assoc] at h
    exact h
  refine K.done _ (K.releaseTarget g hs hstate) ?_ hready
  split
  · exact List.nodup_nil
  · exact List.nodup_singleton _

theorem answerSnapshotTarget : (answerSnapshotTarget s).Holds P :=
  Answer.holds_withTarget fun _ => ⟨K.snapshot _ hs, hready⟩

theorem answerConfigureLane : (answerConfigureLane s).Holds P := by
  unfold Machine.answerConfigureLane
  refine Answer.holds_withLane fun l => Answer.holds_checked fun hc => ?_
  have hgate : (s.lane l).gate = .closed := by simpa using hc _ (List.mem_cons_self ..)
  exact ⟨K.configure l _ hs hgate, hready⟩

theorem answerOpenLane : (answerOpenLane s).Holds P := by
  refine Answer.holds_withLane fun l => Answer.holds_checked fun hc => ?_
  have hstate := hc _ (List.mem_cons_self ..)
  simp only [Bool.or_eq_false_iff, decide_eq_false_iff_not, not_not] at hstate
  exact K.done _ (K.openLane l hs hstate.2) (List.nodup_singleton _) hready

omit hready in
theorem closeLane_kept (l : LaneIx) : P (s.closeLane l) := by
  unfold State.closeLane
  dsimp only
  split
  · exact K.closeLane l hs ‹_›
  · exact K.closeLane l (K.outcome l _ .abandoned false hs ‹_›) ((record_takeOutcome ..).trans (if_pos rfl))

theorem answerCloseLane : (answerCloseLane s).Holds P :=
  Answer.holds_withLane fun l =>
    K.done [] (K.closeLane_kept hs l) List.nodup_nil (portState_closeLane l hready)

theorem answerBlackoutLane : (answerBlackoutLane s).Holds P := by
  refine Answer.holds_withLane fun l => Answer.holds_checked fun hc => ?_
  have hstate := hc _ (List.mem_cons_self ..)
  simp only [Bool.or_eq_false_iff, decide_eq_false_iff_not] at hstate
  exact ⟨K.blackout l _ _ hs hstate.1 hstate.2, hready⟩

theorem answerResumeLane : (answerResumeLane s).Holds P := by
  refine Answer.holds_withLane fun l => Answer.holds_checked fun hc => ?_
  have hstate : (s.lane l).gate = .blackout := by simpa using hc _ (List.mem_cons_self ..)
  exact K.done _ (K.resume l hs hstate) (List.nodup_singleton _) hready

theorem answerClearSuspect : (answerClearSuspect s).Holds P := by
  refine Answer.holds_withLane fun l => Answer.holds_checked fun hc => ?_
  have hstate : (s.lane l).gate = .suspect := by simpa using hc _ (List.mem_cons_self ..)
  exact K.done _ (K.clearSuspect l hs hstate) (List.nodup_singleton _) hready

omit hready in
/-- A write of a code whose owner's answer keeps `P` keeps it (R164, R169). -/
theorem command (code : Byte) {owner : State → Answer}
    (howner : ∀ {z}, P z → z.port.state = .ready → (owner z).Holds P) : P (s.command code owner) := by
  unfold State.command
  split
  · exact K.discard hs
  · rename_i hworking
    have hready : s.port.state = .ready := by
      cases h : s.port.state with
      | ready => rfl
      | working => exact absurd h hworking
    have hanswer := howner (K.latch code hs hready) hready
    revert hanswer
    cases owner (s.latch code) with
    | done t => exact fun h => K.result .done h.1 h.2
    | refused r => exact fun _ => K.result r (K.latch code hs hready) hready
    | waits t => exact id

omit hready in
theorem abort_kept : P s.abort := by
  cases h : s.port.state with
  | working => exact K.abort hs h
  | ready =>
    rw [abort_of_ready h]
    exact K.result _ (K.latch _ hs h) h

omit hready in
theorem unknown (code : Byte) : P (s.unknown code) := by
  unfold State.unknown
  split
  · exact K.discard hs
  · rename_i hworking
    have hready : s.port.state = .ready := by
      cases h : s.port.state with
      | ready => rfl
      | working => exact absurd h hworking
    exact K.result _ (K.latch code hs hready) hready

omit hready in
theorem writeCommand (code : Byte) : P (s.writeCommand code) := by
  unfold State.writeCommand
  split
  · exact K.command hs _ K.answerDefineDuty
  · exact K.command hs _ K.answerStartDuty
  · exact K.command hs _ K.answerStopDuty
  · exact K.command hs _ K.answerRetireDuty
  · exact K.command hs _ K.answerReviveDuty
  · exact K.command hs _ K.answerSetOwed
  · exact K.command hs _ K.answerProdDuty
  · exact K.command hs _ K.answerSnapshotDuty
  · exact K.command hs _ K.answerDefineTarget
  · exact K.command hs _ K.answerDropTarget
  · exact K.command hs _ K.answerHoldTarget
  · exact K.command hs _ K.answerReleaseTarget
  · exact K.command hs _ K.answerSnapshotTarget
  · exact K.command hs _ K.answerConfigureLane
  · exact K.command hs _ K.answerOpenLane
  · exact K.command hs _ K.answerCloseLane
  · exact K.command hs _ K.answerBlackoutLane
  · exact K.command hs _ K.answerResumeLane
  · exact K.command hs _ K.answerClearSuspect
  · exact K.abort_kept hs
  · exact K.schedulerReset hs
  · exact K.unknown hs code

omit hready in
theorem busWrite (reg : BitVec 7) (v : Word) : P (s.busWrite reg v) := by
  unfold State.busWrite
  dsimp only
  split_ifs
  · exact K.writeCommand hs _
  · exact K.collision hs
  · exact K.staging _ v hs
  · exact K.pop hs
  · exact K.summary v hs
  · exact K.enable v hs
  · exact K.trim v hs
  · exact K.window v hs
  · exact hs

-- Events

omit hready in
theorem endTransaction {l : LaneIx} {r : InFlight} (o : Outcome) (good : Bool) (hr : s.record l = some r) :
    P (s.endTransaction l r o good) :=
  K.looksAfter_single s l (K.outcome l r o good hs hr)

omit hready in
/-- A record changed by the last report of its frame keeps its transaction. -/
theorem endWith {l : LaneIx} {r q : InFlight} (o : Outcome) (good : Bool) (hr : s.record l = some r) (hkind : q.kind = r.kind)
    (htarget : q.target = r.target) (hattempt : q.attempt = r.attempt) : P (s.endWith l q o good) :=
  K.looksAfter_single s l (K.outcome l q o good (K.record l r q hs hr hkind htarget hattempt) (by simp))

omit hready in
theorem readStatus {l : LaneIx} {r : InFlight} (value : Byte) (hr : s.record l = some r) : P (s.readStatus l r value) := by
  unfold State.readStatus State.readPending
  split_ifs
  · exact K.endWith hs _ _ hr rfl rfl rfl
  · exact K.record l r _ hs hr rfl rfl rfl
  · exact K.record l r _ hs hr rfl rfl rfl
  · exact K.endWith hs _ _ hr rfl rfl rfl
  · exact K.endWith hs _ _ hr rfl rfl rfl

omit K hs hready in
theorem record_of_movingRecord {s : State} {l : LaneIx} {p : InFlight → Bool} {r : InFlight}
    (h : (s.movingRecord l).filter p = some r) : s.record l = some r ∧ p r = true := by
  obtain ⟨hmoving, hp⟩ := Option.filter_eq_some_iff.mp h
  refine ⟨?_, hp⟩
  unfold State.movingRecord at hmoving
  split at hmoving
  · cases hmoving
  · exact hmoving

omit hready in
theorem responseDeadline (l : LaneIx) :
    ∃ t, execResponseDeadline l s = .next t ∧ P t := by
  refine ⟨_, rfl, ?_⟩
  split
  · rename_i r hdue
    have hr : s.record l = some r := (Option.filter_eq_some_iff.mp hdue).1
    split
    · exact K.endTransaction hs _ _ hr
    · exact K.record l r _ hs hr rfl rfl rfl
    · exact hs
  · exact hs

omit hready in
theorem clockLineHold (l : LaneIx) : ∃ t, execClockLineHold l s = .next t ∧ P t := by
  have hheld : P (s.setLane l { s.lane l with lineHeld := true }) := K.clockLine l _ _ _ hs
  refine ⟨_, rfl, ?_⟩
  split
  · split
    · rename_i r hends
      exact K.endTransaction hheld _ _ (Option.filter_eq_some_iff.mp hends).1
    · exact hheld
  · exact hheld

omit hready in
/-- Every command and every event keeps `P`. -/
theorem exec (c : Instr) : ∃ t, exec c s = .next t ∧ P t := by
  cases c with
  | defineDuty | startDuty | stopDuty | retireDuty | reviveDuty | setOwed | prodDuty | snapshotDuty
  | defineTarget | dropTarget | holdTarget | releaseTarget | snapshotTarget
  | configureLane | openLane | closeLane | blackoutLane | resumeLane | clearSuspect | abort | schedulerReset =>
    exact ⟨_, exec_of_code rfl s, K.writeCommand hs _⟩
  | unknownCode code | commandDiscarded code => exact ⟨_, rfl, K.writeCommand hs code⟩
  | portClear v => exact ⟨_, rfl, K.collision hs⟩
  | incidentPop v => exact ⟨_, rfl, K.pop hs⟩
  | eventSummaryWrite v => exact ⟨_, rfl, K.summary v hs⟩
  | eventEnableWrite v => exact ⟨_, rfl, K.enable v hs⟩
  | trimValueWrite v => exact ⟨_, rfl, K.trim v hs⟩
  | trimWindowWrite v => exact ⟨_, rfl, K.window v hs⟩
  | epochLoRead => exact ⟨_, rfl, K.epochRead _ hs⟩
  | registerWrite reg v => exact ⟨_, rfl, K.busWrite hs reg v⟩
  | reset => exact ⟨_, rfl, K.reset hs⟩
  | powerOn => exact ⟨_, rfl, K.powerOn hs⟩
  | refclkCycle => exact ⟨_, rfl, K.cycle hs⟩
  | tickCompletion | windowStart | partEnd =>
    refine ⟨_, rfl, ?_⟩
    split
    · exact K.cycle hs
    · exact hs
  | boundary d =>
    refine ⟨_, rfl, ?_⟩
    split
    · rename_i b hdue
      have haccrues : s.accrues d = true := by
        by_contra hnot
        simp [State.boundaryDue, hnot] at hdue
      exact K.looksAfter_single s _ (K.boundary d b hs haccrues)
    · exact hs
  | startTime d =>
    refine ⟨_, rfl, ?_⟩
    split
    · rename_i hdue
      simp only [State.startTimeDue, Bool.and_eq_true, decide_eq_true_eq] at hdue
      exact K.looksAfter_single s _ (K.startTime d hs hdue.1.1 hdue.2)
    · exact hs
  | stopTime d =>
    refine ⟨_, rfl, ?_⟩
    split
    · rename_i hdue
      simp only [State.stopTimeDue, Bool.and_eq_true, Bool.or_eq_true, decide_eq_true_eq] at hdue
      refine K.looksAfter_single s _ (K.stop d hs ?_ ?_) <;> rcases hdue.1 with (h | h) | h <;> simp [h]
    · exact hs
  | backoffEnd d =>
    refine ⟨_, rfl, ?_⟩
    split
    · exact K.looks _ hs (List.nodup_singleton _)
    · exact hs
  | responseDeadline l => exact K.responseDeadline hs l
  | quietEnd l =>
    refine ⟨_, rfl, ?_⟩
    split
    · rename_i hdue
      simp only [State.quietEndDue, Bool.and_eq_true, decide_eq_true_eq] at hdue
      exact K.looksAfter_single s _ (K.quietEnd l hs hdue.1)
    · exact hs
  | blackoutEnd l =>
    refine ⟨_, rfl, ?_⟩
    split
    · rename_i hdue
      simp only [State.blackoutEndDue, Bool.and_eq_true, decide_eq_true_eq] at hdue
      exact K.looks _ (K.resume l hs hdue.1) (List.nodup_singleton _)
    · exact hs
  | autoResume l =>
    refine ⟨_, rfl, ?_⟩
    split
    · rename_i hdue
      obtain ⟨hgate, e, hend, _⟩ := (recoveryDue_iff s l).mp hdue
      exact K.looks _ (K.autoResume l hs hgate (by simp [hend])) (List.nodup_singleton _)
    · exact hs
  | minimumHoldEnd g =>
    refine ⟨_, rfl, ?_⟩
    split
    · exact K.looks _ hs (List.nodup_singleton _)
    · exact hs
  | maximumHoldEnd g =>
    refine ⟨_, rfl, ?_⟩
    split
    · rename_i hdue
      simp only [State.targetDue, Bool.and_eq_true, decide_eq_true_eq] at hdue
      exact K.looks _ (K.maximumHold g _ hs hdue.1.1) (List.nodup_singleton _)
    · exact hs
  | settleEnd g =>
    refine ⟨_, rfl, ?_⟩
    split
    · rename_i hdue
      simp only [State.targetDue, Bool.and_eq_true, decide_eq_true_eq] at hdue
      exact K.looks _ (K.settled g hs hdue.1.1) (List.nodup_singleton _)
    · exact hs
  | statusRead l v =>
    refine ⟨_, rfl, ?_⟩
    split
    · exact K.readStatus hs v (record_of_movingRecord ‹_›).1
    · exact hs
  | dataByte l v =>
    refine ⟨_, rfl, ?_⟩
    split
    · rename_i r hmoving
      exact K.record l r _ hs (record_of_movingRecord hmoving).1 rfl rfl rfl
    · exact hs
  | checkByte l v | addressNotAcknowledged l | requestByteRefused l =>
    refine ⟨_, rfl, ?_⟩
    split
    · exact K.endTransaction hs _ _ (record_of_movingRecord ‹_›).1
    · exact hs
  | clockLineHold l => exact K.clockLineHold hs l
  | clockLineRelease l =>
    refine ⟨_, rfl, ?_⟩
    split
    · exact K.clockLine l _ _ _ hs
    · exact K.clockLine l _ _ _ hs

omit hready in
/-- Every step keeps `P`. -/
theorem step {t : State} (hstep : step s = .next t) : P t := by
  unfold Sys2Proof.Machine.step at hstep
  split at hstep
  · exact Host.Outcome.next.inj hstep ▸ hs
  · rename_i c rest _
    obtain ⟨u, hexec, hu⟩ := K.exec (K.pending rest hs) c
    exact Host.Outcome.next.inj (hexec.symm.trans hstep) ▸ hu

end Kept

end Sys2Proof.Machine

/-! The looks of one event, as an induction over the issues they make (R57, R58, R61). -/

namespace Sys2Proof.Machine

section

variable {P : State → Prop} {I : State → LaneIx → Candidate → Prop}

@[simp] theorem lockOf_issue (s : State) (l : LaneIx) (c : Candidate) (d : DutyIx) : (s.issue l c).lockOf d = s.lockOf d := by
  simp only [State.lockOf, Duty.looked_defn (duty_issue s l c d)]

@[simp] theorem claimOf_issue (s : State) (l : LaneIx) (c e : Candidate) : (s.issue l c).claimOf e = s.claimOf e := by
  cases e <;> simp [State.claimOf]

/-- The two candidates claim different share locks, or one of them none. -/
def State.apart (s : State) (c e : Candidate) : Prop := ∀ k, s.claimOf c = some k → s.claimOf e ≠ some k

theorem apart_issue (s : State) (l : LaneIx) (b c e : Candidate) : (s.issue l b).apart c e ↔ s.apart c e := by
  simp [State.apart]

/-- Issues at different lanes, of candidates that may be issued and claim different locks, keep `P`, and leave the other lanes
as ready to issue as they were. -/
theorem foldIssue_kept (hissue : ∀ z l c, P z → z.mayIssue l = true → I z l c → P (z.issue l c))
    (hkeep : ∀ z l c m e, P z → z.mayIssue l = true → I z l c → m ≠ l → I z m e → z.apart c e → I (z.issue l c) m e)
    (ps : List (LaneIx × Candidate)) (z : State) (hz : P z) (hnodup : (ps.map (·.1)).Nodup)
    (hmay : ∀ p ∈ ps, z.mayIssue p.1 = true) (hI : ∀ p ∈ ps, I z p.1 p.2)
    (hapart : ps.Pairwise fun p q => z.apart p.2 q.2) :
    P (ps.foldl (fun acc p => acc.issue p.1 p.2) z) ∧
      ∀ m, m ∉ ps.map (·.1) → (ps.foldl (fun acc p => acc.issue p.1 p.2) z).mayIssue m = z.mayIssue m := by
  induction ps generalizing z with
  | nil => exact ⟨hz, fun _ _ => rfl⟩
  | cons p ps ih =>
    obtain ⟨hfresh, hrest⟩ := List.nodup_cons.mp hnodup
    obtain ⟨hhead, htail⟩ := List.pairwise_cons.mp hapart
    have hp : z.mayIssue p.1 = true := hmay p (List.mem_cons_self ..)
    have hIp : I z p.1 p.2 := hI p (List.mem_cons_self ..)
    have hne : ∀ q ∈ ps, q.1 ≠ p.1 := fun q hq h => hfresh (List.mem_map.mpr ⟨q, hq, h⟩)
    obtain ⟨hP, hsame⟩ := ih (z.issue p.1 p.2) (hissue z p.1 p.2 hz hp hIp) hrest
      (fun q hq => by simp [mayIssue_issue, hmay q (List.mem_cons_of_mem _ hq), hne q hq])
      (fun q hq => hkeep z p.1 p.2 q.1 q.2 hz hp hIp (hne q hq) (hI q (List.mem_cons_of_mem _ hq)) (hhead q hq))
      (htail.imp fun h => (apart_issue z p.1 p.2 _ _).mpr h)
    refine ⟨hP, fun m hm => ?_⟩
    simp only [List.map_cons, List.mem_cons, not_or] at hm
    rw [List.foldl_cons, hsame m hm.2]
    simp [mayIssue_issue, hm.1]

/-- Two claims that are both granted are on different locks (R61). -/
theorem apart_of_granted {s : State} {claims : List (LaneIx × Candidate)} {p q : LaneIx × Candidate}
    (hp : p ∈ claims.filter fun p => !s.claimRefused claims p.1 p.2)
    (hq : q ∈ claims.filter fun p => !s.claimRefused claims p.1 p.2) (hne : p.1 ≠ q.1) : s.apart p.2 q.2 := by
  intro k hk hk'
  simp only [List.mem_filter, Bool.not_eq_true', State.claimRefused, hk, hk'] at hp hq
  rcases lt_or_gt_of_ne hne with hlt | hgt
  · have := List.any_eq_false.mp hq.2 p hp.1
    simp [hlt, hk] at this
  · have := List.any_eq_false.mp hp.2 q hq.1
    simp [hgt, hk'] at this

theorem lookRounds_kept (hchoose : ∀ z l c, P z → z.mayIssue l = true → z.choose l = some c → I z l c)
    (hissue : ∀ z l c, P z → z.mayIssue l = true → I z l c → P (z.issue l c))
    (hkeep : ∀ z l c m e, P z → z.mayIssue l = true → I z l c → m ≠ l → I z m e → z.apart c e → I (z.issue l c) m e)
    (n : Nat) (ls : List LaneIx) (z : State) (hz : P z) (hnodup : ls.Nodup) (hmay : ∀ l ∈ ls, z.mayIssue l = true) :
    P (lookRounds n ls z) := by
  induction n generalizing ls z with
  | zero => exact hz
  | succ n ih =>
    rw [lookRounds]
    generalize hclaims : (ls.filterMap fun l => (z.choose l).map fun c => (l, c)) = claims
    obtain ⟨hlanes, hmem⟩ := hclaims ▸ claims_lanes z ls hnodup
    have hsub (p : LaneIx × Candidate → Bool) : ((claims.filter p).map (·.1)).Nodup :=
      hlanes.sublist (List.filter_sublist.map _)
    obtain ⟨hP, hsame⟩ := foldIssue_kept hissue hkeep (claims.filter fun p => !z.claimRefused claims p.1 p.2) z hz (hsub _)
      (fun p hp => hmay _ (hmem p (List.mem_filter.mp hp).1).1)
      (fun p hp => hchoose z _ _ hz (hmay _ (hmem p (List.mem_filter.mp hp).1).1) (hmem p (List.mem_filter.mp hp).1).2)
      ((List.pairwise_map.mp (hsub _)).imp_of_mem fun hp hq hne => apart_of_granted hp hq hne)
    refine ih _ _ hP (hsub _) fun l hl => ?_
    obtain ⟨p, hp, rfl⟩ := List.mem_map.mp hl
    obtain ⟨hpclaims, hprefused⟩ := List.mem_filter.mp hp
    rw [hsame, hmay _ (hmem p hpclaims).1]
    intro hgranted
    obtain ⟨q, hq, hqp⟩ := List.mem_map.mp hgranted
    obtain ⟨hqclaims, hqgranted⟩ := List.mem_filter.mp hq
    have : q = p := List.inj_on_of_nodup_map hlanes hqclaims hpclaims hqp
    subst this
    simp [hprefused] at hqgranted

/-- What each issue of a chosen candidate keeps, the looks of one event keep. -/
theorem looks_kept (hchoose : ∀ z l c, P z → z.mayIssue l = true → z.choose l = some c → I z l c)
    (hissue : ∀ z l c, P z → z.mayIssue l = true → I z l c → P (z.issue l c))
    (hkeep : ∀ z l c m e, P z → z.mayIssue l = true → I z l c → m ≠ l → I z m e → z.apart c e → I (z.issue l c) m e)
    {x : State} (ls : List LaneIx) (hx : P x) (hls : ls.Nodup) : P (x.looks ls) :=
  lookRounds_kept hchoose hissue hkeep 4 _ x hx (hls.filter _) fun _ hl => (List.mem_filter.mp hl).2

/-- What every issue at a lane that may issue keeps, the looks of one event keep. -/
theorem looks_kept_of_issue (hissue : ∀ z l c, P z → z.mayIssue l = true → P (z.issue l c))
    {x : State} (ls : List LaneIx) (hx : P x) (hls : ls.Nodup) : P (x.looks ls) :=
  looks_kept (I := fun _ _ _ => True) (fun _ _ _ _ _ _ => trivial) (fun z l c hz hm _ => hissue z l c hz hm)
    (fun _ _ _ _ _ _ _ _ _ _ _ => trivial) ls hx hls

end

end Sys2Proof.Machine

/-! The incident unit and the time base stay sound: each write to them keeps the ranges, and every effect is made of such writes. -/

namespace Sys2Proof.Machine

-- Writes to the incident unit (R152, R153, R156 to R160, R162)

namespace IncidentUnit

variable {u : IncidentUnit}

/-- Every update ends in `follow`, which sets INCIDENT by the queue and IRQ by the summary (R157, R160). -/
theorem sound_follow (h : u.queue.length ≤ Config.queueCapacity) : u.follow.sound := ⟨rfl, rfl, h⟩

theorem sound_pass (h : u.sound) (i : Incident) : (u.pass i).sound := by
  refine sound_follow ?_
  by_cases hstored : u.queue.length < Config.queueCapacity
  · simp [hstored]
  · simpa [hstored] using h.2.2

theorem sound_pop (h : u.sound) : u.pop.sound :=
  sound_follow ((List.length_tail ▸ Nat.sub_le _ _).trans h.2.2)

theorem sound_setCommand (h : u.sound) : u.setCommand.sound := sound_follow h.2.2
theorem sound_setLane (h : u.sound) : u.setLane.sound := sound_follow h.2.2
theorem sound_setHold (h : u.sound) : u.setHold.sound := sound_follow h.2.2
theorem sound_writeSummary (h : u.sound) (w : Word) : (u.writeSummary w).sound := sound_follow h.2.2
theorem sound_writeEnable (h : u.sound) (w : Word) : (u.writeEnable w).sound := sound_follow h.2.2
theorem sound_schedulerReset : u.schedulerReset.sound := sound_follow (Nat.zero_le _)
theorem sound_default : ({} : IncidentUnit).sound := ⟨rfl, rfl, Nat.zero_le _⟩

end IncidentUnit

-- The incident unit under the shared operations

section

variable {s : State} (h : s.inc.sound)
include h

theorem inc_sound_reportIfPressed (d : DutyIx) : (s.reportIfPressed d).inc.sound := by
  unfold State.reportIfPressed State.pressedReport
  dsimp only
  split_ifs
  · exact IncidentUnit.sound_setLane h
  · exact h
  · exact h

theorem inc_sound_startRunning (d : DutyIx) : (s.startRunning d).inc.sound :=
  inc_sound_reportIfPressed (by simpa using h) d

theorem inc_sound_missBoundary (d : DutyIx) : (s.missBoundary d).inc.sound := by
  unfold State.missBoundary
  dsimp only
  by_cases hoverdue : (s.duty d).overdue = true
  · rw [if_pos hoverdue]
    exact h
  · rw [if_neg hoverdue]
    exact IncidentUnit.sound_pass h _

theorem inc_sound_boundaryAt (d : DutyIx) (b : Epoch) : (s.boundaryAt d b).inc.sound := by
  unfold State.boundaryAt
  dsimp only
  split_ifs
  · exact inc_sound_reportIfPressed (by simpa using h) d
  · exact inc_sound_reportIfPressed (by simpa using h) d
  · simpa using inc_sound_missBoundary (by simpa using h) d
  · exact inc_sound_missBoundary (by simpa using h) d

theorem inc_sound_setOwed (d : DutyIx) (v : Int) : (s.setOwed d v).inc.sound := by
  unfold State.setOwed
  dsimp only
  split_ifs
  all_goals first
    | exact inc_sound_reportIfPressed (by simpa using h) d
    | simpa using h

-- Outcomes

theorem inc_sound_failDuty (l : LaneIx) (r : InFlight) (d : DutyIx) (why : Reason) : (s.failDuty l r d why).inc.sound := by
  have hpassed : ∀ b : Bool, ((if b = true then (s.setDuty d (failedDuty (s.duty d) why)).passIncident
      (integrityIncident s l r) else s.setDuty d (failedDuty (s.duty d) why)).inc).sound := by
    intro b
    cases b
    · exact h
    · exact IncidentUnit.sound_pass h _
  unfold State.failDuty
  dsimp only
  specialize hpassed (decide (why = .integrity))
  simp only [decide_eq_true_eq] at hpassed
  generalize (if why = .integrity then _ else _ : State) = x at hpassed ⊢
  split_ifs
  · simpa using hpassed
  · simpa using IncidentUnit.sound_pass hpassed _
  · exact hpassed

theorem inc_sound_deviateDuty (l : LaneIx) (r : InFlight) (d : DutyIx) : (s.deviateDuty l r d).inc.sound := by
  unfold State.deviateDuty
  dsimp only
  split_ifs <;> simpa using IncidentUnit.sound_pass h _

theorem inc_sound_busyDuty (l : LaneIx) (r : InFlight) (d : DutyIx) : (s.busyDuty l r d).inc.sound := by
  unfold State.busyDuty
  dsimp only
  split_ifs
  · simpa using h
  · exact inc_sound_failDuty h l r d _

theorem inc_sound_dutyOutcome (l : LaneIx) (r : InFlight) (d : DutyIx) (o : Outcome) :
    (s.dutyOutcome l r d o).inc.sound := by
  cases o with
  | credited => simpa [State.dutyOutcome] using h
  | deviation => exact inc_sound_deviateDuty h l r d
  | busy => exact inc_sound_busyDuty h l r d
  | noAnswer | timeout | rejected | integrity => exact inc_sound_failDuty h l r d _
  | abandoned => simpa [State.dutyOutcome] using h

theorem inc_sound_rebaseDuty (d : DutyIx) : (s.rebaseDuty d).inc.sound := by
  unfold State.rebaseDuty
  dsimp only
  split_ifs
  · exact inc_sound_reportIfPressed (by simpa using h) d
  · exact inc_sound_startRunning h d
  · exact h

omit h in
/-- A fold of updates that keep a predicate keeps it. -/
theorem foldl_kept {β : Type} {P : State → Prop} {f : State → β → State} (hf : ∀ z b, P z → P (f z b)) (bs : List β)
    {z : State} (hz : P z) : P (bs.foldl f z) := by
  induction bs generalizing z with
  | nil => exact hz
  | cons b bs ih => exact ih (hf z b hz)

theorem inc_sound_rebaseDuties (g : TargetIx) : (s.rebaseDuties g).inc.sound := by
  refine foldl_kept (P := fun z => z.inc.sound) (fun z d hz => ?_) _ h
  split_ifs
  · exact inc_sound_rebaseDuty hz d
  · exact hz

theorem inc_sound_holdCredited (r : InFlight) (entry : Bool) : (s.holdCredited r entry).inc.sound := by
  cases entry
  · exact IncidentUnit.sound_setHold (inc_sound_rebaseDuties (s := s.setTarget _ _) h _)
  · exact IncidentUnit.sound_setHold (by simpa using h)

theorem inc_sound_holdFailed (l : LaneIx) (r : InFlight) (entry : Bool) (why : Reason) :
    (s.holdFailed l r entry why).inc.sound := by
  cases entry <;> unfold State.holdFailed
  · simp only [Bool.false_eq_true, if_false, State.exitFailed]
    split_ifs
    · exact h
    · exact IncidentUnit.sound_setHold (IncidentUnit.sound_pass h _)
  · simp only [if_true, State.entryFailed]
    split_ifs
    · exact IncidentUnit.sound_setHold (IncidentUnit.sound_pass h _)
    · exact IncidentUnit.sound_setHold h
    · exact h

theorem inc_sound_holdOutcome (l : LaneIx) (r : InFlight) (entry : Bool) (o : Outcome) :
    (s.holdOutcome l r entry o).inc.sound := by
  cases o with
  | credited | deviation => exact inc_sound_holdCredited h r entry
  | busy | noAnswer | timeout | rejected => exact inc_sound_holdFailed h l r entry _
  | integrity => exact inc_sound_holdFailed (s := s.passIncident _) (IncidentUnit.sound_pass h _) l r entry _
  | abandoned =>
    exact IncidentUnit.sound_setHold (IncidentUnit.sound_pass (by simpa using h) _)

theorem inc_sound_ownerTakes (l : LaneIx) (r : InFlight) (o : Outcome) : (s.ownerTakes l r o).inc.sound := by
  unfold State.ownerTakes
  split
  · exact inc_sound_dutyOutcome h l r _ o
  · exact inc_sound_holdOutcome h l r true o
  · exact inc_sound_holdOutcome h l r false o

theorem inc_sound_reportToLane (l : LaneIx) (o : Outcome) (good : Bool) : (s.reportToLane l o good).inc.sound := by
  unfold State.reportToLane
  split_ifs
  · exact IncidentUnit.sound_setLane h
  · exact h
  · exact h

theorem inc_sound_completeRetire (r : InFlight) : (s.completeRetire r).inc.sound := by
  unfold State.completeRetire
  split
  · split_ifs
    · exact IncidentUnit.sound_setCommand (by simpa using h)
    · exact h
  · exact h
  · exact h

theorem inc_sound_takeOutcome (l : LaneIx) (r : InFlight) (o : Outcome) (good : Bool) :
    (s.takeOutcome l r o good).inc.sound :=
  inc_sound_completeRetire (by simpa using inc_sound_reportToLane (inc_sound_ownerTakes h l r o) l o good) r

end

theorem inc_sound_schedulerReset (s : State) : s.schedulerReset.inc.sound := by
  refine IncidentUnit.sound_setCommand (foldl_kept (P := fun z => z.inc.sound) (fun z g hz => ?_) _ ?_)
  · exact IncidentUnit.sound_setHold (IncidentUnit.sound_pass hz _)
  · exact IncidentUnit.sound_schedulerReset

/-- The incident unit stays sound under every effect. -/
theorem kept_inc_sound : Kept fun s => s.inc.sound where
  pending _ h := h
  latch _ h _ := h
  result _ h _ := IncidentUnit.sound_setCommand h
  discard h := h
  snapshot _ h := h
  staging n v h := by unfold State.writeStaging; split <;> exact h
  collision h := h
  abort h _ := by
    unfold State.abort
    dsimp only
    split <;> exact IncidentUnit.sound_setCommand h
  schedulerReset {s} _ := inc_sound_schedulerReset s
  pop h := IncidentUnit.sound_pop h
  summary v h := IncidentUnit.sound_writeSummary h v
  enable v h := IncidentUnit.sound_writeEnable h v
  trim _ h := h
  window _ h := h
  epochRead _ h := h
  cycle h := by unfold State.refclkCycle; dsimp only; split <;> exact h
  reset _ := IncidentUnit.sound_default
  powerOn _ := IncidentUnit.sound_default
  defineDuty _ h _ := h
  startWaiting _ _ h _ _ := h
  startNow d _ h _ _ _ := inc_sound_startRunning (s := State.setDuty _ _ _) h d
  startTime d h _ _ := inc_sound_startRunning h d
  stop d h _ _ := by simpa using h
  vacate d h _ _ := by simpa using h
  retireWaits d h _ _ _ _ hx := by subst hx; split <;> simpa using h
  revive d h _ := inc_sound_reportIfPressed (by simpa using h) d
  setOwed d v h _ _ := inc_sound_setOwed h d v
  prod d h _ := by simpa using h
  clearCounts _ h := h
  boundary d b h _ := inc_sound_boundaryAt h d b
  defineTarget _ h _ _ := h
  dropTarget _ h _ _ _ := h
  holdTarget _ h _ _ := h
  releaseTarget _ h _ := h
  maximumHold _ i h _ := IncidentUnit.sound_setHold (IncidentUnit.sound_pass h i)
  settled _ h _ := h
  configure _ _ h _ := h
  openLane _ h _ := h
  closeLane _ h _ := by simpa using h
  blackout _ _ _ h _ _ := h
  resume _ h _ := h
  clearSuspect _ h _ := h
  autoResume _ h _ _ := IncidentUnit.sound_setLane h
  quietEnd _ h _ := by simpa using h
  clockLine _ _ _ _ h := h
  record _ _ _ h _ _ _ _ := h
  outcome l r o good h _ := inc_sound_takeOutcome h l r o good
  looks ls h _ := by simpa using h

/-- Settles O54: the incident unit stays sound under every effect of a step. -/
theorem incidentUnitStaysSound : Obligations.IncidentUnitStaysSound :=
  fun _ _ h hstep => kept_inc_sound.step h hstep

-- The time base (R142 to R145)

theorem trimInRange_clampTrim (v : Int) : trimInRange (clampTrim v) := clampTrim_bounds v

theorem TrimWindow.cycles_pos (w : TrimWindow) : 0 < w.cycles := by cases w <;> decide

namespace TimeBase

variable {t : TimeBase}

theorem sound_default : ({} : TimeBase).sound := by
  refine ⟨.inr (.inl rfl), by decide, by decide, ⟨by decide, by decide⟩, ⟨by decide, by decide⟩, rfl⟩

/-- The end of a part touches the adjustment due alone (R144). -/
theorem endPart_if_eq (p : Bool) : ∃ a, (if p = true then t.endPart else t) = { t with adjustment := a } := by
  cases p
  · exact ⟨_, rfl⟩
  · exact ⟨_, rfl⟩

theorem sound_cycle (h : t.sound) : t.cycle.sound := by
  obtain ⟨hlength, hphase, hposition, htrim, hwritten, hpart⟩ := h
  have hwindow := t.writtenWindow.cycles_pos
  have hfresh : ∀ a : Adjustment, a.tickLength = 3 ∨ a.tickLength = 4 ∨ a.tickLength = 5 := by
    intro a
    cases a <;> simp [Adjustment.tickLength]
  have hfreshPhase : ∀ a : Adjustment, 0 < a.tickLength := by
    intro a
    cases a <;> simp [Adjustment.tickLength]
  unfold cycle
  obtain ⟨a, ha⟩ := endPart_if_eq (t := t) t.endsPart
  rw [ha]
  simp only [completesTick, startsWindow, decide_eq_true_eq]
  split_ifs with hstarts hcompletes hcompletes
  · exact ⟨hfresh a, hfreshPhase a, hwindow, hwritten, hwritten, rfl⟩
  · exact ⟨hlength, Nat.lt_of_not_le hcompletes, hwindow, hwritten, hwritten, rfl⟩
  · exact ⟨hfresh a, hfreshPhase a, Nat.lt_of_not_le hstarts, htrim, hwritten, hpart⟩
  · exact ⟨hlength, Nat.lt_of_not_le hcompletes, Nat.lt_of_not_le hstarts, htrim, hwritten, hpart⟩

theorem sound_writeTrim (h : t.sound) (w : Word) : (t.writeTrim w).sound := by
  obtain ⟨hlength, hphase, hposition, htrim, _, hpart⟩ := h
  exact ⟨hlength, hphase, hposition, htrim, trimInRange_clampTrim _, hpart⟩

theorem sound_writeWindow (h : t.sound) (w : Word) : (t.writeWindow w).sound := by
  unfold writeWindow
  split <;> exact h

theorem Moves.sound {a b : TimeBase} (hmoves : a.Moves b) (h : a.sound) : b.sound := by
  cases hmoves with
  | stays => exact h
  | cycle => exact sound_cycle h
  | writeTrim v => exact sound_writeTrim h v
  | writeWindow v => exact sound_writeWindow h v

end TimeBase

theorem time_sound_exec {c : Instr} {s t : State} (h : s.time.sound) (hexec : exec c s = .next t) : t.time.sound := by
  by_cases hread : c = .epochLoRead
  · subst hread
    obtain rfl := Host.Outcome.next.inj hexec
    exact h
  by_cases hpower : c = .powerOn
  · subst hpower
    obtain rfl := Host.Outcome.next.inj hexec
    exact TimeBase.sound_default
  obtain ⟨u, hu, hmoves⟩ := moves_exec hread hpower s
  obtain rfl := Host.Outcome.next.inj (hu.symm.trans hexec)
  exact hmoves.sound h

/-- Settles O55: REFCLK cycles and writes to the trim registers keep the ranges, and nothing else moves the time base. -/
theorem timeBaseStaysSound : Obligations.TimeBaseStaysSound := by
  intro s t h hstep
  unfold step at hstep
  split at hstep
  · obtain rfl := Host.Outcome.next.inj hstep
    exact h
  · rename_i c rest _
    exact time_sound_exec (s := { s with pending := rest }) h hstep

end Sys2Proof.Machine

/-! Owed stays in -A..D+1 (R23, R30): the few updates that touch Owed, the Overdue marker or a definition keep the range, and
every other update keeps all three. -/

namespace Sys2Proof.Machine

namespace Duty

variable {x : Duty}

theorem owedSound_default : ({} : Duty).owedSound :=
  ⟨⟨by decide, by decide⟩, fun _ hv => by simp at hv, fun h => by simp at h⟩

theorem owedSound_offered (h : x.owedSound) : x.offered.owedSound := h

/-- A credit lowers Owed by one at the most, and not below -A (R33). -/
theorem owedSound_creditedDuty (h : x.owedSound) (forcedMark : Bool) (last : LastOutcome) :
    (creditedDuty x forcedMark last).owedSound := by
  obtain ⟨⟨hlow, hhigh⟩, hinitial, hoverdue⟩ := h
  have howed : creditedOwed x = x.owed ∨ (creditedOwed x = x.owed - 1 ∧ -(x.defn.advanceLimit : Int) < x.owed) := by
    unfold creditedOwed
    split_ifs with _ hfloor
    · exact .inl rfl
    · exact .inl rfl
    · exact .inr ⟨rfl, by omega⟩
  refine ⟨⟨?low, ?high⟩, hinitial, ?overdue⟩
  case low => change -(x.defn.advanceLimit : Int) ≤ creditedOwed x; omega
  case high => change creditedOwed x ≤ x.defn.deferLimit + 1; omega
  case overdue =>
    intro h
    change creditedOwed x = x.defn.deferLimit + 1
    simp only [creditedDuty] at h
    split at h
    · cases h
    · have := hoverdue h
      omega

/-- START DUTY takes the Initial owed, or 1 (R9). -/
theorem owedSound_startedDuty (h : x.owedSound) (start : Option Epoch) : (startedDuty x start).owedSound := by
  obtain ⟨_, hinitial, _⟩ := h
  refine ⟨?_, hinitial, fun h => nomatch h⟩
  change x.defn.owedInRange (x.defn.initialOwed.getD 1)
  cases hi : x.defn.initialOwed with
  | none => constructor <;> simp
  | some v => exact hinitial v hi

/-- The record that SET OWED sets before it offers a ticket (R40). -/
def withOwed (x : Duty) (v : Int) : Duty :=
  { x with owed := v, overdue := if v ≤ x.defn.deferLimit then false else x.overdue }

theorem owedSound_withOwed (h : x.owedSound) {v : Int} (hv : x.defn.owedInRange v) : (x.withOwed v).owedSound := by
  obtain ⟨_, hinitial, _⟩ := h
  refine ⟨hv, hinitial, fun ho => ?_⟩
  have hhigh : v ≤ x.defn.deferLimit + 1 := hv.2
  change v = x.defn.deferLimit + 1
  simp only [withOwed] at ho
  split at ho
  · cases ho
  · omega

end Duty

section

variable {s : State} (h : s.owedSound)
include h

omit h in
theorem owedSound_of_duty {t : State} (hs : s.owedSound) (hd : ∀ d, t.duty d = s.duty d) : t.owedSound :=
  fun d => (hd d).symm ▸ hs d

theorem owedSound_setDuty (d : DutyIx) {x : Duty} (hx : x.owedSound) : (s.setDuty d x).owedSound := by
  intro e
  rw [duty_setDuty]
  split
  · exact hx
  · exact h e

theorem owedSound_offerTicket (d : DutyIx) : (s.offerTicket d).owedSound := by
  intro e
  rw [duty_offerTicket]
  split
  · exact Duty.owedSound_offered (h d)
  · exact h e

theorem owedSound_removeTicket (d : DutyIx) : (s.removeTicket d).owedSound := by
  intro e
  rw [duty_removeTicket]
  split
  · exact h d
  · exact h e

theorem owedSound_reportIfPressed (d : DutyIx) : (s.reportIfPressed d).owedSound := owedSound_of_duty h (by simp)

omit h in
/-- A start is a change of the duty's state and Next boundary, an offer and a report (R9, R10, R32). -/
theorem startRunning_eq (s : State) (d : DutyIx) :
    s.startRunning d = ((s.setDuty d { s.duty d with
      state := .running, nextBoundary := boundaryAfter s.now (s.duty d).defn.interval }).offerTicket d).reportIfPressed d :=
  rfl

theorem owedSound_startRunning (d : DutyIx) : (s.startRunning d).owedSound := by
  rw [startRunning_eq]
  exact owedSound_reportIfPressed (owedSound_offerTicket (owedSound_setDuty h d (by exact h d)) d) d

theorem owedSound_stopDuty (d : DutyIx) : (s.stopDuty d).owedSound := by
  intro e
  rw [duty_stopDuty]
  split
  · exact h d
  · exact h e

theorem owedSound_faultDuty (d : DutyIx) : (s.faultDuty d).owedSound := by
  intro e
  rw [duty_faultDuty]
  split
  · exact h d
  · exact h e

theorem owedSound_vacateDuty (d : DutyIx) : (s.vacateDuty d).owedSound := by
  intro e
  rw [duty_vacateDuty]
  split
  · exact Duty.owedSound_default
  · exact h e

omit h in
theorem dutyFieldBad_of_checks {s : State} {d : DutyIx} (hchecks : ∀ c ∈ s.defineDutyChecks d, c.1 = false) :
    dutyFieldBad (dutyStaging s.port.latched) = false :=
  hchecks (dutyFieldBad (dutyStaging s.port.latched), .field) (by simp [State.defineDutyChecks])

omit h in
/-- A checked Initial owed lies in -A..D+1 (R6). -/
theorem owedOutside_of_fields {w : DutyStaging} (hfields : dutyFieldBad w = false) {v : Int} (hv : w.initialOwed = some v) :
    owedOutside w.deferLimit w.advanceLimit v = false := by
  simp only [dutyFieldBad, hv, Bool.or_eq_false_iff] at hfields
  obtain ⟨⟨⟨⟨⟨⟨_, hrange⟩, _⟩, _⟩, _⟩, _⟩, _⟩ := hfields
  exact hrange

/-- A definition that DEFINE DUTY has checked has its Initial owed in range, and Owed 0 always is (R6, R7). -/
theorem owedSound_defineDuty (d : DutyIx) (hchecks : ∀ c ∈ s.defineDutyChecks d, c.1 = false) :
    (s.setDuty d { defn := dutyDefOf s.port.latched, state := .stopped }).owedSound := by
  refine owedSound_setDuty h d ⟨⟨by simp, by simp; omega⟩, fun v hv => ?_, fun ho => nomatch ho⟩
  have hrange := owedOutside_of_fields (dutyFieldBad_of_checks hchecks) hv
  simp only [owedOutside, decide_eq_false_iff_not, not_or, not_lt] at hrange
  exact hrange

omit h in
/-- SET OWED: the record, an offer, the removal of a ticket that the duty no longer wants, and a report (R40). -/
theorem setOwed_eq (s : State) (d : DutyIx) (v : Int) (z : State)
    (hz : z = (s.setDuty d ((s.duty d).withOwed v)).offerTicket d) :
    s.setOwed d v =
      let y := if v ≤ 0 ∧ (s.duty d).catchUp = false ∧ (s.duty d).forced = false then z.removeTicket d else z
      if (s.duty d).owed < (s.duty d).defn.deferLimit + 1 then y.reportIfPressed d else y := by
  subst hz
  simp only [State.setOwed, Duty.withOwed, Bool.and_eq_true, decide_eq_true_eq, Bool.not_eq_true', and_assoc]

theorem owedSound_setOwed (d : DutyIx) {v : Int} (hv : (s.duty d).defn.owedInRange v) : (s.setOwed d v).owedSound := by
  rw [setOwed_eq s d v _ rfl]
  have hoffered := owedSound_offerTicket (owedSound_setDuty h d (Duty.owedSound_withOwed (h d) hv)) d
  generalize State.offerTicket _ d = z at hoffered ⊢
  dsimp only
  split_ifs
  · exact owedSound_reportIfPressed (owedSound_removeTicket hoffered d) d
  · exact owedSound_reportIfPressed hoffered d
  · exact owedSound_removeTicket hoffered d
  · exact hoffered

theorem owedSound_missBoundary (d : DutyIx) (hlimit : (s.duty d).defn.deferLimit + 1 ≤ (s.duty d).owed) :
    (s.missBoundary d).owedSound := by
  obtain ⟨hrange, hinitial, _⟩ := h d
  have hhigh : (s.duty d).owed ≤ (s.duty d).defn.deferLimit + 1 := hrange.2
  unfold State.missBoundary
  dsimp only
  refine owedSound_of_duty (s := State.setDuty _ _ _) (owedSound_setDuty h d ?_) (fun e => by split <;> rfl)
  exact ⟨hrange, hinitial, fun _ => le_antisymm hhigh hlimit⟩

/-- A boundary raises Owed below its limit, and at the limit sets the Overdue marker (R28, R29). -/
theorem owedSound_boundaryAt (d : DutyIx) (b : Epoch) : (s.boundaryAt d b).owedSound := by
  obtain ⟨⟨hlow, hhigh⟩, hinitial, hoverdue⟩ := h d
  unfold State.boundaryAt
  generalize hnext : boundaryAfter b (s.duty d).defn.interval = next
  have hmoved : (s.setDuty d { s.duty d with nextBoundary := next }).owedSound := owedSound_setDuty h d (by exact h d)
  dsimp only
  rw [hnext, duty_setDuty, if_pos rfl]
  split
  · rename_i hbelow
    have hraised : ((s.setDuty d { s.duty d with nextBoundary := next }).setDuty d
        { s.duty d with nextBoundary := next, owed := (s.duty d).owed + 1 }).owedSound := by
      refine owedSound_setDuty hmoved d ⟨⟨?_, ?_⟩, hinitial, fun ho => ?_⟩
      · change -((s.duty d).defn.advanceLimit : Int) ≤ (s.duty d).owed + 1
        omega
      · change (s.duty d).owed + 1 ≤ (s.duty d).defn.deferLimit + 1
        omega
      · have := hoverdue ho
        omega
    split
    · exact owedSound_reportIfPressed (owedSound_offerTicket hraised d) d
    · exact owedSound_reportIfPressed hraised d
  · rename_i hlimit
    have hmissed := owedSound_missBoundary hmoved d (by simpa using hlimit)
    split
    · exact owedSound_offerTicket hmissed d
    · exact hmissed

-- Outcomes

theorem owedSound_creditDuty (r : InFlight) (d : DutyIx) : (s.creditDuty r d).owedSound :=
  owedSound_offerTicket (owedSound_setDuty h d (Duty.owedSound_creditedDuty (h d) _ _)) d

omit h in
theorem owedSound_passIncident {z : State} (hz : z.owedSound) (i : Incident) : (z.passIncident i).owedSound := hz

omit h in
theorem owedSound_setHoldCause {z : State} (hz : z.owedSound) : z.setHoldCause.owedSound := hz

omit h in
theorem owedSound_setTarget {z : State} (hz : z.owedSound) (g : TargetIx) (x : Target) : (z.setTarget g x).owedSound := hz

theorem owedSound_deviateDuty (l : LaneIx) (r : InFlight) (d : DutyIx) : (s.deviateDuty l r d).owedSound := by
  have hcredited := owedSound_setDuty h d (Duty.owedSound_creditedDuty (h d) r.forcedMark .deviation)
  have hoffered := owedSound_offerTicket (owedSound_passIncident hcredited (deviationIncident s l r d)) d
  unfold State.deviateDuty
  dsimp only
  split
  · exact owedSound_faultDuty hoffered d
  · exact hoffered

theorem owedSound_failDuty (l : LaneIx) (r : InFlight) (d : DutyIx) (why : Reason) : (s.failDuty l r d why).owedSound := by
  have hfailed : (s.setDuty d (failedDuty (s.duty d) why)).owedSound := owedSound_setDuty h d (by exact h d)
  have hreported : (if why = .integrity then (s.setDuty d (failedDuty (s.duty d) why)).passIncident
      (integrityIncident s l r) else s.setDuty d (failedDuty (s.duty d) why)).owedSound :=
    owedSound_of_duty hfailed fun e => by split <;> rfl
  unfold State.failDuty
  dsimp only
  generalize (if why = .integrity then _ else _ : State) = x at hreported ⊢
  split_ifs
  · exact owedSound_offerTicket hreported d
  · exact owedSound_passIncident (owedSound_faultDuty hreported d) _
  · exact hreported

theorem owedSound_dutyOutcome (l : LaneIx) (r : InFlight) (d : DutyIx) (o : Outcome) : (s.dutyOutcome l r d o).owedSound := by
  cases o with
  | credited => exact owedSound_creditDuty h r d
  | deviation => exact owedSound_deviateDuty h l r d
  | busy =>
    simp only [State.dutyOutcome, State.busyDuty]
    split
    · exact owedSound_offerTicket (owedSound_setDuty h d (by exact h d)) d
    · exact owedSound_failDuty h l r d _
  | noAnswer | timeout | rejected | integrity => exact owedSound_failDuty h l r d _
  | abandoned => exact owedSound_offerTicket (owedSound_setDuty h d (by exact h d)) d

theorem owedSound_suspendDuties (g : TargetIx) : (s.suspendDuties g).owedSound := by
  refine foldl_kept (P := State.owedSound) (fun z d hz => ?_) _ h
  dsimp only
  split
  · exact owedSound_setDuty hz d (by exact hz d)
  · exact hz

theorem owedSound_rebaseDuties (g : TargetIx) : (s.rebaseDuties g).owedSound := by
  refine foldl_kept (P := State.owedSound) (fun z d hz => ?_) _ h
  unfold State.rebaseDuty
  dsimp only
  split_ifs
  · exact owedSound_reportIfPressed (owedSound_offerTicket (owedSound_setDuty hz d (by exact hz d)) d) d
  · exact owedSound_startRunning hz d
  · exact hz
  · exact hz

theorem owedSound_holdOutcome (l : LaneIx) (r : InFlight) (entry : Bool) (o : Outcome) :
    (s.holdOutcome l r entry o).owedSound := by
  have hcredited : (s.holdCredited r entry).owedSound := by
    cases entry
    · exact owedSound_setHoldCause (owedSound_rebaseDuties (owedSound_setTarget h _ _) _)
    · exact owedSound_setHoldCause (owedSound_suspendDuties (owedSound_setTarget h _ _) _)
  cases o with
  | credited | deviation => exact hcredited
  | busy | noAnswer | timeout | rejected | integrity => exact owedSound_of_duty h (by simp [State.holdOutcome])
  | abandoned =>
    exact owedSound_setHoldCause (owedSound_passIncident (owedSound_suspendDuties (owedSound_setTarget h _ _) _) _)

theorem owedSound_takeOutcome (l : LaneIx) (r : InFlight) (o : Outcome) (good : Bool) :
    (s.takeOutcome l r o good).owedSound := by
  have howner : (s.ownerTakes l r o).owedSound := by
    unfold State.ownerTakes
    split
    · exact owedSound_dutyOutcome h l r _ o
    · exact owedSound_holdOutcome h l r true o
    · exact owedSound_holdOutcome h l r false o
  have hleft : (((s.ownerTakes l r o).reportToLane l o good).leaveBusy l r (s.quietTimeOf r) o).owedSound :=
    owedSound_of_duty howner (by simp)
  unfold State.takeOutcome State.completeRetire
  split
  · split
    · exact owedSound_of_duty (owedSound_vacateDuty hleft _) fun _ => rfl
    · exact hleft
  · exact hleft
  · exact hleft

theorem owedSound_issue (l : LaneIx) (c : Candidate) : (s.issue l c).owedSound := by
  intro d
  rcases duty_issue s l c d with hd | hd <;> rw [hd] <;> exact h d

end

-- SCHEDULER RESET, block by block

@[simp] theorem duty_emptySchedule (s : State) (d : DutyIx) : s.emptySchedule.duty d = {} := by
  simp [State.emptySchedule, State.duty]
@[simp] theorem list_emptySchedule (s : State) (l : LaneIx) : s.emptySchedule.list l = [] := by
  simp [State.emptySchedule, State.list]
@[simp] theorem lock_emptySchedule (s : State) (k : LockIx) : s.emptySchedule.lock k = none := by
  simp [State.emptySchedule, State.lock]
@[simp] theorem record_emptySchedule (s : State) (l : LaneIx) : s.emptySchedule.record l = none := by
  simp [State.emptySchedule, State.record]
@[simp] theorem target_emptySchedule (s : State) (g : TargetIx) : s.emptySchedule.target g = s.target g := rfl
@[simp] theorem lane_emptySchedule (s : State) (l : LaneIx) : s.emptySchedule.lane l = s.lane l := rfl

@[simp] theorem duty_resetTargets (s : State) (d : DutyIx) : s.resetTargets.duty d = s.duty d :=
  foldl_keeps (State.duty · d) _ (by simp) _ _
@[simp] theorem lane_resetTargets (s : State) (l : LaneIx) : s.resetTargets.lane l = s.lane l :=
  foldl_keeps (State.lane · l) _ (by simp) _ _
@[simp] theorem list_resetTargets (s : State) (l : LaneIx) : s.resetTargets.list l = s.list l :=
  foldl_keeps (State.list · l) _ (by simp) _ _
@[simp] theorem lock_resetTargets (s : State) (k : LockIx) : s.resetTargets.lock k = s.lock k :=
  foldl_keeps (State.lock · k) _ (by simp) _ _
@[simp] theorem record_resetTargets (s : State) (l : LaneIx) : s.resetTargets.record l = s.record l :=
  foldl_keeps (State.record · l) _ (by simp) _ _

@[simp] theorem duty_resetLanes (s : State) (d : DutyIx) : s.resetLanes.duty d = s.duty d :=
  foldl_keeps (State.duty · d) _ (by simp) _ _
@[simp] theorem target_resetLanes (s : State) (g : TargetIx) : s.resetLanes.target g = s.target g :=
  foldl_keeps (State.target · g) _ (by simp) _ _
@[simp] theorem list_resetLanes (s : State) (l : LaneIx) : s.resetLanes.list l = s.list l :=
  foldl_keeps (State.list · l) _ (by simp) _ _
@[simp] theorem lock_resetLanes (s : State) (k : LockIx) : s.resetLanes.lock k = s.lock k :=
  foldl_keeps (State.lock · k) _ (by simp) _ _
@[simp] theorem record_resetLanes (s : State) (l : LaneIx) : s.resetLanes.record l = s.record l :=
  foldl_keeps (State.record · l) _ (by simp) _ _

@[simp] theorem duty_recordStranded (s : State) (ts : List TargetIx) (d : DutyIx) : (s.recordStranded ts).duty d = s.duty d :=
  foldl_keeps (State.duty · d) _ (by simp) _ _
@[simp] theorem target_recordStranded (s : State) (ts : List TargetIx) (g : TargetIx) :
    (s.recordStranded ts).target g = s.target g :=
  foldl_keeps (State.target · g) _ (by simp) _ _
@[simp] theorem lane_recordStranded (s : State) (ts : List TargetIx) (l : LaneIx) : (s.recordStranded ts).lane l = s.lane l :=
  foldl_keeps (State.lane · l) _ (by simp) _ _
@[simp] theorem list_recordStranded (s : State) (ts : List TargetIx) (l : LaneIx) : (s.recordStranded ts).list l = s.list l :=
  foldl_keeps (State.list · l) _ (by simp) _ _
@[simp] theorem lock_recordStranded (s : State) (ts : List TargetIx) (k : LockIx) : (s.recordStranded ts).lock k = s.lock k :=
  foldl_keeps (State.lock · k) _ (by simp) _ _
@[simp] theorem record_recordStranded (s : State) (ts : List TargetIx) (l : LaneIx) :
    (s.recordStranded ts).record l = s.record l :=
  foldl_keeps (State.record · l) _ (by simp) _ _

theorem mem_allDuties (d : DutyIx) : d ∈ allDuties := List.mem_finRange d
theorem mem_allTargets (g : TargetIx) : g ∈ allTargets := List.mem_finRange g
theorem mem_allLanes (l : LaneIx) : l ∈ allLanes := List.mem_finRange l

/-- Each target is reset by itself (R113, Table 5-5). -/
@[simp] theorem target_resetTargets (s : State) (g : TargetIx) :
    s.resetTargets.target g = schedulerResetTarget (s.target g) := by
  have hfold : ∀ (ts : List TargetIx) (z : State), ts.Nodup →
      (ts.foldl (fun acc t => acc.setTarget t (schedulerResetTarget (acc.target t))) z).target g =
        if g ∈ ts then schedulerResetTarget (z.target g) else z.target g := by
    intro ts
    induction ts with
    | nil => simp
    | cons t ts ih =>
      intro z hnodup
      obtain ⟨hfresh, hrest⟩ := List.nodup_cons.mp hnodup
      rw [List.foldl_cons, ih _ hrest]
      by_cases hg : g = t
      · subst hg
        simp [hfresh]
      · simp [hg]
  rw [State.resetTargets, hfold allTargets s (List.nodup_finRange 32), if_pos (mem_allTargets g)]

/-- Each lane is reset by itself (R141). -/
@[simp] theorem lane_resetLanes (s : State) (l : LaneIx) : s.resetLanes.lane l = schedulerResetLane (s.lane l) := by
  have hfold : ∀ (ls : List LaneIx) (z : State), ls.Nodup →
      (ls.foldl (fun acc j => acc.setLane j (schedulerResetLane (acc.lane j))) z).lane l =
        if l ∈ ls then schedulerResetLane (z.lane l) else z.lane l := by
    intro ls
    induction ls with
    | nil => simp
    | cons j ls ih =>
      intro z hnodup
      obtain ⟨hfresh, hrest⟩ := List.nodup_cons.mp hnodup
      rw [List.foldl_cons, ih _ hrest]
      by_cases hl : l = j
      · subst hl
        simp [hfresh]
      · simp [hl]
  rw [State.resetLanes, hfold allLanes s allLanes_nodup, if_pos (mem_allLanes l)]

/-- The state with another incident unit. -/
def State.withInc (s : State) (u : IncidentUnit) : State := { s with inc := u }

@[simp] theorem duty_withInc (s : State) (u : IncidentUnit) (d : DutyIx) : (s.withInc u).duty d = s.duty d := rfl
@[simp] theorem target_withInc (s : State) (u : IncidentUnit) (g : TargetIx) : (s.withInc u).target g = s.target g := rfl
@[simp] theorem lane_withInc (s : State) (u : IncidentUnit) (l : LaneIx) : (s.withInc u).lane l = s.lane l := rfl
@[simp] theorem list_withInc (s : State) (u : IncidentUnit) (l : LaneIx) : (s.withInc u).list l = s.list l := rfl
@[simp] theorem lock_withInc (s : State) (u : IncidentUnit) (k : LockIx) : (s.withInc u).lock k = s.lock k := rfl
@[simp] theorem record_withInc (s : State) (u : IncidentUnit) (l : LaneIx) : (s.withInc u).record l = s.record l := rfl
@[simp] theorem inc_withInc (s : State) (u : IncidentUnit) : (s.withInc u).inc = u := rfl

/-- The schedule emptied, and the targets and the lanes reset (R173, steps 1 to 5). -/
def State.resetBlocks (s : State) : State := s.emptySchedule.resetTargets.resetLanes

theorem schedulerReset_eq (s : State) :
    s.schedulerReset =
      (((s.latch 0x31).resetBlocks.withInc (s.latch 0x31).resetBlocks.inc.schedulerReset).recordStranded
        s.holdsInFlight).recordResult .done := rfl

@[simp] theorem duty_resetBlocks (s : State) (d : DutyIx) : s.resetBlocks.duty d = {} := by simp [State.resetBlocks]
@[simp] theorem list_resetBlocks (s : State) (l : LaneIx) : s.resetBlocks.list l = [] := by simp [State.resetBlocks]
@[simp] theorem lock_resetBlocks (s : State) (k : LockIx) : s.resetBlocks.lock k = none := by simp [State.resetBlocks]
@[simp] theorem record_resetBlocks (s : State) (l : LaneIx) : s.resetBlocks.record l = none := by simp [State.resetBlocks]
@[simp] theorem target_resetBlocks (s : State) (g : TargetIx) :
    s.resetBlocks.target g = schedulerResetTarget (s.target g) := by
  simp [State.resetBlocks]
@[simp] theorem lane_resetBlocks (s : State) (l : LaneIx) : s.resetBlocks.lane l = schedulerResetLane (s.lane l) := by
  simp [State.resetBlocks]

@[simp] theorem duty_schedulerReset (s : State) (d : DutyIx) : s.schedulerReset.duty d = {} := by simp [schedulerReset_eq]
@[simp] theorem list_schedulerReset (s : State) (l : LaneIx) : s.schedulerReset.list l = [] := by simp [schedulerReset_eq]
@[simp] theorem lock_schedulerReset (s : State) (k : LockIx) : s.schedulerReset.lock k = none := by simp [schedulerReset_eq]
@[simp] theorem record_schedulerReset (s : State) (l : LaneIx) : s.schedulerReset.record l = none := by
  simp [schedulerReset_eq]
@[simp] theorem target_schedulerReset (s : State) (g : TargetIx) :
    s.schedulerReset.target g = schedulerResetTarget (s.target g) := by
  simp [schedulerReset_eq]
@[simp] theorem lane_schedulerReset (s : State) (l : LaneIx) : s.schedulerReset.lane l = schedulerResetLane (s.lane l) := by
  simp [schedulerReset_eq]

-- RESET (R21, R47, R60, R87, R112, R115)

@[simp] theorem duty_resetPin (s : State) (d : DutyIx) : s.resetPin.duty d = {} := by
  simp [State.resetPin, State.reset, State.duty]
@[simp] theorem target_resetPin (s : State) (g : TargetIx) : s.resetPin.target g = {} := by
  simp [State.resetPin, State.reset, State.target]
@[simp] theorem list_resetPin (s : State) (l : LaneIx) : s.resetPin.list l = [] := by
  simp [State.resetPin, State.reset, State.list]
@[simp] theorem lock_resetPin (s : State) (k : LockIx) : s.resetPin.lock k = none := by
  simp [State.resetPin, State.reset, State.lock]
@[simp] theorem record_resetPin (s : State) (l : LaneIx) : s.resetPin.record l = none := by
  simp [State.resetPin, State.reset, State.record]
@[simp] theorem lane_resetPin (s : State) (l : LaneIx) : s.resetPin.lane l = resetLane (s.lane l) := by
  simp [State.resetPin, State.lane]

/-- ABORT of a waiting RETIRE DUTY (R16, R171). -/
theorem abort_of_working {s : State} (hworking : s.port.state = .working) :
    s.abort = ((s.latch 0x30).setDuty s.waitingDuty { s.duty s.waitingDuty with retirePending := false }).recordResult
      .aborted := by
  simp [State.abort, hworking]

theorem owedSound_withTime {s : State} (h : s.owedSound) (a : TimeBase) (w : Word) :
    ({ s with time := a, busRead := w } : State).owedSound := h

theorem kept_owedSound : Kept State.owedSound where
  pending _ h := h
  latch _ h _ := h
  result _ h _ := h
  discard h := h
  snapshot _ h := h
  staging n v h := by unfold State.writeStaging; split <;> exact h
  collision h := h
  abort {s} h hworking := by
    rw [abort_of_working hworking]
    exact owedSound_setDuty (s := s.latch 0x30) h s.waitingDuty (by exact h s.waitingDuty)
  schedulerReset {s} _ d := by rw [duty_schedulerReset]; exact Duty.owedSound_default
  pop h := h
  summary _ h := h
  enable _ h := h
  trim _ h := h
  window _ h := h
  epochRead _ h := h
  cycle h := by unfold State.refclkCycle; dsimp only; split <;> exact h
  reset _ d := by rw [duty_resetPin]; exact Duty.owedSound_default
  powerOn {s} _ := owedSound_withTime (s := s.resetPin) (fun d => by rw [duty_resetPin]; exact Duty.owedSound_default) {} 0
  defineDuty d h hchecks := owedSound_defineDuty h d hchecks
  startWaiting d start h _ _ := owedSound_setDuty h d (Duty.owedSound_startedDuty (h d) start)
  startNow d start h _ _ _ := owedSound_startRunning (owedSound_setDuty h d (Duty.owedSound_startedDuty (h d) start)) d
  startTime d h _ _ := owedSound_startRunning h d
  stop d h _ _ := owedSound_stopDuty h d
  vacate d h _ _ := owedSound_vacateDuty h d
  retireWaits {s x} d h _ _ _ _ hx := by
    have hxs : x.owedSound := by
      subst hx
      split
      · exact owedSound_stopDuty h d
      · exact h
    exact owedSound_setDuty hxs d (by exact hxs d)
  revive d h _ := owedSound_reportIfPressed (owedSound_offerTicket (owedSound_setDuty h d (by exact h d)) d) d
  setOwed d _ h _ hv := owedSound_setOwed h d hv
  prod d h _ := owedSound_offerTicket (owedSound_setDuty h d (by exact h d)) d
  clearCounts d h := owedSound_setDuty h d (by exact h d)
  boundary d b h _ := owedSound_boundaryAt h d b
  defineTarget _ h _ _ := h
  dropTarget _ h _ _ _ := h
  holdTarget _ h _ _ := h
  releaseTarget _ h _ := h
  maximumHold _ _ h _ := h
  settled _ h _ := h
  configure _ _ h _ := h
  openLane _ h _ := h
  closeLane _ h _ := owedSound_of_duty h (by simp)
  blackout _ _ _ h _ _ := h
  resume _ h _ := h
  clearSuspect _ h _ := h
  autoResume _ h _ _ := h
  quietEnd _ h _ := owedSound_of_duty h (by simp)
  clockLine _ _ _ _ h := h
  record _ _ _ h _ _ _ _ := h
  outcome l r o good h _ := owedSound_takeOutcome h l r o good
  looks ls h hls := looks_kept_of_issue (P := State.owedSound) (fun _ l c hz _ => owedSound_issue hz l c) ls h hls

/-- Settles O56: the count of every duty stays sound under every effect of a step. -/
theorem owedStaysInRange : Obligations.OwedStaysInRange := fun _ _ h hstep => kept_owedSound.step h hstep

end Sys2Proof.Machine

/-! The tickets and the due lists agree (R4, R44): what an offer, a removal and a change of a record do to them, and why every
effect is made of these. -/

namespace Sys2Proof.Machine

section

variable {s : State}

/-- The same lists, tickets and lanes of ticket holders, and the rest of the claim anew. -/
theorem ticketsSound_of {t : State} (h : s.ticketsSound) (hlist : ∀ l, t.list l = s.list l)
    (hticket : ∀ d, (t.duty d).ticket = (s.duty d).ticket)
    (hrun : ∀ d, (s.duty d).ticket = true →
      (t.duty d).state = .running ∧ (t.duty d).inFlight = false ∧ t.laneOf d = s.laneOf d)
    (hdef : ∀ d, (t.duty d).state ≠ .vacant → (t.targetOf d).holdState ≠ .undefined) : t.ticketsSound := by
  obtain ⟨hmem, hnodup, _, _⟩ := h
  refine ⟨fun l d => ?_, fun l => hlist l ▸ hnodup l, fun d hd => ?_, hdef⟩
  · rw [hlist, hmem, hticket]
    refine and_congr_right fun hd => ?_
    rw [(hrun d hd).2.2]
  · obtain ⟨hstate, hflight, _⟩ := hrun d (hticket d ▸ hd)
    exact ⟨hstate, hflight⟩

theorem ticketsSound_of_views {t : State} (h : s.ticketsSound) (hlist : ∀ l, t.list l = s.list l)
    (hduty : ∀ d, t.duty d = s.duty d) (htarget : ∀ g, t.target g = s.target g) : t.ticketsSound := by
  obtain ⟨_, _, hrun, hdef⟩ := id h
  refine ticketsSound_of h hlist (fun d => by rw [hduty]) (fun d hd => ?_) fun d hd => ?_
  · simp [State.laneOf, State.targetOf, hduty, htarget, hrun d hd]
  · simp only [State.targetOf, hduty, htarget] at hd ⊢
    exact hdef d hd

/-- A change of a record that keeps the ticket, and of a ticket holder also the state and the target. -/
theorem ticketsSound_setDuty_of (h : s.ticketsSound) (d : DutyIx) {x : Duty} (hticket : x.ticket = (s.duty d).ticket)
    (hrun : x.ticket = true → x.state = .running ∧ x.inFlight = false ∧ x.defn.target = (s.duty d).defn.target)
    (hdef : x.state ≠ .vacant → (s.target x.defn.target).holdState ≠ .undefined) : (s.setDuty d x).ticketsSound := by
  obtain ⟨_, _, hkept, hnamed⟩ := id h
  refine ticketsSound_of h (fun _ => rfl) (fun e => ?_) (fun e he => ?_) fun e he => ?_
  · by_cases hed : e = d <;> simp [hed, hticket]
  · by_cases hed : e = d
    · subst hed
      obtain ⟨hstate, hflight, htarget⟩ := hrun (hticket.trans he)
      simp [State.laneOf, State.targetOf, hstate, hflight, htarget]
    · simp [State.laneOf, State.targetOf, hed, hkept e he]
  · by_cases hed : e = d
    · subst hed
      simpa [State.targetOf] using hdef (by simpa using he)
    · simpa [State.targetOf, hed] using hnamed e (by simpa [hed] using he)

/-- A change of a record with its target kept. -/
theorem ticketsSound_setDuty (h : s.ticketsSound) (d : DutyIx) {x : Duty} (hticket : x.ticket = (s.duty d).ticket)
    (htarget : x.defn.target = (s.duty d).defn.target) (hvacant : x.state ≠ .vacant → (s.duty d).state ≠ .vacant)
    (hrun : (s.duty d).ticket = true → x.state = .running ∧ x.inFlight = false) : (s.setDuty d x).ticketsSound := by
  refine ticketsSound_setDuty_of h d hticket (fun hx => ?_) fun hx => ?_
  · obtain ⟨hstate, hflight⟩ := hrun (hticket ▸ hx)
    exact ⟨hstate, hflight, htarget⟩
  · rw [htarget]
    exact h.2.2.2 d (hvacant hx)

theorem duty_placeTicket (s : State) (d e : DutyIx) :
    (s.placeTicket d).duty e = if e = d then { s.duty d with ticket := true } else s.duty e := by
  simp [State.placeTicket]

theorem list_placeTicket (s : State) (d : DutyIx) (l : LaneIx) :
    (s.placeTicket d).list l = if l = s.laneOf d then s.list l ++ [d] else s.list l := by
  by_cases hl : l = s.laneOf d <;> simp [State.placeTicket, hl]

theorem ticketsSound_offerTicket (h : s.ticketsSound) (d : DutyIx) : (s.offerTicket d).ticketsSound := by
  obtain ⟨hmem, hnodup, hrun, hdef⟩ := h
  unfold State.offerTicket
  split
  · rename_i hgets
    simp only [Duty.getsTicket, Bool.and_eq_true, decide_eq_true_eq, Bool.not_eq_true'] at hgets
    obtain ⟨⟨⟨hstate, _⟩, hticket⟩, hflight⟩ := hgets
    have hfresh : ∀ l, d ∉ s.list l := fun l hl => by
      simpa [hticket] using ((hmem l d).mp hl).1
    have hlane : ∀ e, (s.placeTicket d).laneOf e = s.laneOf e := by
      intro e
      by_cases he : e = d <;> simp [State.laneOf, State.targetOf, State.placeTicket, he]
    refine ⟨fun l e => ?_, fun l => ?_, fun e he => ?_, fun e he => ?_⟩
    · rw [hlane]
      rw [list_placeTicket, duty_placeTicket]
      by_cases hed : e = d
      · subst hed
        by_cases hl : l = s.laneOf e
        · simp [hl]
        · simp [hl, Ne.symm hl, hfresh]
      · by_cases hl : l = s.laneOf d <;> simp [hl, hed, hmem]
    · by_cases hl : l = s.laneOf d
      · subst hl
        simpa [State.placeTicket] using List.nodup_append.mpr ⟨hnodup _, List.nodup_singleton d, by
          intro a ha b hb hab
          exact hfresh _ (List.mem_singleton.mp hb ▸ hab ▸ ha)⟩
      · simpa [State.placeTicket, hl] using hnodup l
    · by_cases hed : e = d
      · simp [State.placeTicket, hed, hstate, hflight]
      · have := hrun e (by simpa [State.placeTicket, hed] using he)
        simpa [State.placeTicket, hed] using this
    · by_cases hed : e = d
      · subst hed
        simpa [State.placeTicket, State.targetOf] using hdef e (by simp [hstate])
      · have := hdef e (by simpa [State.placeTicket, hed] using he)
        simpa [State.placeTicket, State.targetOf, hed] using this
  · exact ⟨hmem, hnodup, hrun, hdef⟩

theorem ticketsSound_removeTicket (h : s.ticketsSound) (d : DutyIx) : (s.removeTicket d).ticketsSound := by
  obtain ⟨hmem, hnodup, hrun, hdef⟩ := h
  have hlane : ∀ e, (s.removeTicket d).laneOf e = s.laneOf e := by
    intro e
    by_cases he : e = d <;> simp [State.laneOf, State.targetOf, he]
  refine ⟨fun l e => ?_, fun l => ?_, fun e he => ?_, fun e he => ?_⟩
  · rw [hlane, list_removeTicket]
    by_cases hed : e = d
    · subst hed
      by_cases hl : l = s.laneOf e
      · simp [hl]
      · simp [hl, hmem, Ne.symm hl]
    · by_cases hl : l = s.laneOf d <;> simp [hl, hed, hmem]
  · rw [list_removeTicket]
    split
    · exact (hnodup l).filter _
    · exact hnodup l
  · by_cases hed : e = d
    · simp [hed] at he
    · simpa [hed] using hrun e (by simpa [hed] using he)
  · by_cases hed : e = d
    · subst hed
      simpa [State.targetOf] using hdef e (by simpa using he)
    · simpa [State.targetOf, hed] using hdef e (by simpa [hed] using he)

/-- A target that keeps its Lane and does not become UNDEFINED. -/
theorem ticketsSound_setTarget (h : s.ticketsSound) (g : TargetIx) {x : Target}
    (hlane : x.defn.lane = (s.target g).defn.lane) (hdefined : x.holdState = .undefined → (s.target g).holdState = .undefined) :
    (s.setTarget g x).ticketsSound := by
  obtain ⟨_, _, hrun, hdef⟩ := id h
  refine ticketsSound_of h (fun _ => rfl) (fun _ => rfl) (fun d hd => ?_) fun d hd hu => ?_
  · refine ⟨(hrun d hd).1, (hrun d hd).2, ?_⟩
    by_cases hg : (s.duty d).defn.target = g <;> simp [State.laneOf, State.targetOf, hg, hlane]
  · refine hdef d hd ?_
    by_cases hg : (s.duty d).defn.target = g <;> simp [State.targetOf, hg] at hu ⊢
    · exact hdefined hu
    · exact hu

theorem names_iff (s : State) (g : TargetIx) (d : DutyIx) :
    s.names g d = true ↔ (s.duty d).state ≠ .vacant ∧ (s.duty d).defn.target = g := by
  simp [State.names]

theorem inUse_eq_false_iff (s : State) (g : TargetIx) :
    s.inUse g = false ↔ ∀ d, (s.duty d).state ≠ .vacant → (s.duty d).defn.target ≠ g := by
  simp only [State.inUse, List.any_eq_false, names_iff, not_and]
  exact ⟨fun h d => h d (mem_allDuties d), fun h d _ => h d⟩

/-- A target that no duty names may become anything. -/
theorem ticketsSound_setTarget_of_unused (h : s.ticketsSound) (g : TargetIx) (x : Target)
    (hunused : ∀ d, (s.duty d).state ≠ .vacant → (s.duty d).defn.target ≠ g) : (s.setTarget g x).ticketsSound := by
  obtain ⟨_, _, hrun, hdef⟩ := id h
  refine ticketsSound_of h (fun _ => rfl) (fun _ => rfl) (fun d hd => ?_) fun d hd => ?_
  · refine ⟨(hrun d hd).1, (hrun d hd).2, ?_⟩
    simp [State.laneOf, State.targetOf, hunused d (by simp [(hrun d hd).1])]
  · have := hdef d hd
    simpa [State.targetOf, hunused d hd] using this

-- The shared operations

variable (h : s.ticketsSound)
include h

theorem ticketsSound_passIncident (i : Incident) : (s.passIncident i).ticketsSound := h
theorem ticketsSound_setHoldCause : s.setHoldCause.ticketsSound := h
theorem ticketsSound_recordResult (r : CmdResult) : (s.recordResult r).ticketsSound := h

theorem ticketsSound_reportIfPressed (d : DutyIx) : (s.reportIfPressed d).ticketsSound :=
  ticketsSound_of_views h (by simp) (by simp) (by simp)

/-- A start, from a state whose record may be changed to RUNNING (R9, R10). -/
theorem ticketsSound_startRunning (d : DutyIx) (hstate : (s.duty d).state ≠ .vacant) : (s.startRunning d).ticketsSound := by
  rw [startRunning_eq]
  refine ticketsSound_reportIfPressed (ticketsSound_offerTicket (ticketsSound_setDuty h d (by rfl) (by rfl) (fun _ => hstate) ?_) d) d
  exact fun hticket => ⟨rfl, (h.2.2.1 d hticket).2⟩

/-- After its ticket is removed a duty may take any state but VACANT that it does not have. -/
theorem ticketsSound_of_removed (d : DutyIx) {x : Duty} (hticket : x.ticket = false)
    (htarget : x.defn.target = (s.duty d).defn.target) (hvacant : x.state ≠ .vacant → (s.duty d).state ≠ .vacant) :
    ((s.removeTicket d).setDuty d x).ticketsSound := by
  refine ticketsSound_setDuty (ticketsSound_removeTicket h d) d ?_ ?_ ?_ ?_
  · simp [hticket]
  · simp [htarget]
  · simpa using hvacant
  · simp

theorem ticketsSound_stopDuty (d : DutyIx) (hstate : (s.duty d).state ≠ .vacant) : (s.stopDuty d).ticketsSound := by
  unfold State.stopDuty
  exact ticketsSound_of_removed h d (by simp) (by simp) fun _ => hstate

theorem ticketsSound_faultDuty (d : DutyIx) (hstate : (s.duty d).state ≠ .vacant) : (s.faultDuty d).ticketsSound := by
  unfold State.faultDuty
  exact ticketsSound_of_removed h d (by simp) (by simp) fun _ => hstate

theorem ticketsSound_vacateDuty (d : DutyIx) : (s.vacateDuty d).ticketsSound := by
  have hremoved : (((s.removeTicket d).dropCarriedLock d).releaseLockOf d).ticketsSound :=
    ticketsSound_of_views (ticketsSound_removeTicket h d) (by simp) (by simp) (by simp)
  unfold State.vacateDuty
  exact ticketsSound_setDuty_of hremoved d (by simp) (fun hx => nomatch hx) fun hx => absurd rfl hx

theorem ticketsSound_setOwed (d : DutyIx) (v : Int) : (s.setOwed d v).ticketsSound := by
  rw [setOwed_eq s d v _ rfl]
  have hoffered := ticketsSound_offerTicket
    (ticketsSound_setDuty (x := (s.duty d).withOwed v) h d rfl rfl (fun hv => hv) (h.2.2.1 d)) d
  generalize State.offerTicket _ d = z at hoffered ⊢
  dsimp only
  split_ifs
  · exact ticketsSound_reportIfPressed (ticketsSound_removeTicket hoffered d) d
  · exact ticketsSound_reportIfPressed hoffered d
  · exact ticketsSound_removeTicket hoffered d
  · exact hoffered

theorem ticketsSound_missBoundary (d : DutyIx) : (s.missBoundary d).ticketsSound := by
  unfold State.missBoundary
  dsimp only
  refine ticketsSound_of_views (s := State.setDuty _ _ _)
    (ticketsSound_setDuty h d ?_ ?_ ?_ ?_) (fun l => by split <;> rfl) (fun e => by split <;> rfl) (fun g => by split <;> rfl)
  · rfl
  · rfl
  · exact id
  · exact h.2.2.1 d

theorem ticketsSound_boundaryAt (d : DutyIx) (b : Epoch) : (s.boundaryAt d b).ticketsSound := by
  unfold State.boundaryAt
  generalize hnext : boundaryAfter b (s.duty d).defn.interval = next
  have hmoved : (s.setDuty d { s.duty d with nextBoundary := next }).ticketsSound :=
    ticketsSound_setDuty h d (by rfl) (by rfl) (by exact id) (by exact h.2.2.1 d)
  dsimp only
  rw [hnext, duty_setDuty, if_pos rfl]
  split
  · have hraised : ((s.setDuty d { s.duty d with nextBoundary := next }).setDuty d
        { s.duty d with nextBoundary := next, owed := (s.duty d).owed + 1 }).ticketsSound := by
      refine ticketsSound_setDuty hmoved d ?_ ?_ ?_ ?_ <;> simp
      exact h.2.2.1 d
    split
    · exact ticketsSound_reportIfPressed (ticketsSound_offerTicket hraised d) d
    · exact ticketsSound_reportIfPressed hraised d
  · split
    · exact ticketsSound_offerTicket (ticketsSound_missBoundary hmoved d) d
    · exact ticketsSound_missBoundary hmoved d

-- Outcomes

/-- The record after an outcome keeps ticket, target and state, with nothing in flight (R42, R76 to R81). -/
theorem ticketsSound_after (d : DutyIx) {x : Duty} (hticket : x.ticket = (s.duty d).ticket)
    (hdefn : x.defn = (s.duty d).defn) (hstate : x.state = (s.duty d).state) (hflight : x.inFlight = false) :
    (s.setDuty d x).ticketsSound :=
  ticketsSound_setDuty h d hticket (by rw [hdefn]) (by rw [hstate]; exact id)
    fun hd => ⟨hstate.trans (h.2.2.1 d hd).1, hflight⟩

theorem ticketsSound_deviateDuty (l : LaneIx) (r : InFlight) (d : DutyIx) : (s.deviateDuty l r d).ticketsSound := by
  have hcredited : (s.setDuty d (creditedDuty (s.duty d) r.forcedMark .deviation)).ticketsSound :=
    ticketsSound_after h d (by rfl) (by rfl) (by rfl) (by rfl)
  have hoffered := ticketsSound_offerTicket (ticketsSound_passIncident hcredited (deviationIncident s l r d)) d
  unfold State.deviateDuty
  dsimp only
  split
  · rename_i hhalts
    simp only [Bool.and_eq_true, decide_eq_true_eq] at hhalts
    refine ticketsSound_faultDuty hoffered d ?_
    simp [duty_offerTicket, Duty.offered, creditedDuty, hhalts.1]
  · exact hoffered

theorem ticketsSound_failDuty (l : LaneIx) (r : InFlight) (d : DutyIx) (why : Reason) :
    (s.failDuty l r d why).ticketsSound := by
  have hfailed : (s.setDuty d (failedDuty (s.duty d) why)).ticketsSound := ticketsSound_after h d (by rfl) (by rfl) (by rfl) (by rfl)
  have hreported : (if why = .integrity then (s.setDuty d (failedDuty (s.duty d) why)).passIncident
      (integrityIncident s l r) else s.setDuty d (failedDuty (s.duty d) why)).ticketsSound := by
    split
    · exact ticketsSound_passIncident hfailed _
    · exact hfailed
  unfold State.failDuty
  dsimp only
  generalize (if why = .integrity then _ else _ : State) = x at hreported ⊢
  split_ifs with _ hrunning
  · exact ticketsSound_offerTicket hreported d
  · exact ticketsSound_passIncident (ticketsSound_faultDuty hreported d (by simp [hrunning])) _
  · exact hreported

theorem ticketsSound_dutyOutcome (l : LaneIx) (r : InFlight) (d : DutyIx) (o : Outcome) :
    (s.dutyOutcome l r d o).ticketsSound := by
  cases o with
  | credited => exact ticketsSound_offerTicket (ticketsSound_after h d (by rfl) (by rfl) (by rfl) (by rfl)) d
  | deviation => exact ticketsSound_deviateDuty h l r d
  | busy =>
    simp only [State.dutyOutcome, State.busyDuty]
    split
    · exact ticketsSound_offerTicket (ticketsSound_after h d (by rfl) (by rfl) (by rfl) (by rfl)) d
    · exact ticketsSound_failDuty h l r d _
  | noAnswer | timeout | rejected | integrity => exact ticketsSound_failDuty h l r d _
  | abandoned => exact ticketsSound_offerTicket (ticketsSound_after h d (by rfl) (by rfl) (by rfl) (by rfl)) d

theorem ticketsSound_suspendDuties (g : TargetIx) : (s.suspendDuties g).ticketsSound := by
  refine foldl_kept (P := State.ticketsSound) (fun z d hz => ?_) _ h
  dsimp only
  split
  · exact ticketsSound_setDuty hz d (by rfl) (by rfl) (by exact id) (by exact hz.2.2.1 d)
  · exact hz

theorem ticketsSound_rebaseDuties (g : TargetIx) : (s.rebaseDuties g).ticketsSound := by
  refine foldl_kept (P := State.ticketsSound) (fun z d hz => ?_) _ h
  unfold State.rebaseDuty
  dsimp only
  split_ifs with _ _ hwaiting
  · exact ticketsSound_reportIfPressed
      (ticketsSound_offerTicket (ticketsSound_setDuty hz d (by rfl) (by rfl) (by exact id) (by exact hz.2.2.1 d)) d) d
  · simp only [Bool.and_eq_true, decide_eq_true_eq] at hwaiting
    exact ticketsSound_startRunning hz d (by simp [hwaiting.1])
  · exact hz
  · exact hz

theorem ticketsSound_holdCredited (r : InFlight) (entry : Bool) : (s.holdCredited r entry).ticketsSound := by
  cases entry
  · refine ticketsSound_setHoldCause (ticketsSound_rebaseDuties (ticketsSound_setTarget h _ ?_ ?_) _)
    · unfold exitedTarget; dsimp only; split <;> rfl
    · unfold exitedTarget; dsimp only; split <;> exact fun hu => nomatch hu
  · refine ticketsSound_setHoldCause (ticketsSound_suspendDuties (ticketsSound_setTarget h _ ?_ ?_) _)
    · unfold enteredTarget; dsimp only; (repeat' split) <;> rfl
    · unfold enteredTarget; dsimp only; (repeat' split) <;> exact fun hu => nomatch hu

theorem ticketsSound_holdFailed (l : LaneIx) (r : InFlight) (entry : Bool) (why : Reason) :
    (s.holdFailed l r entry why).ticketsSound := by
  cases entry <;> unfold State.holdFailed
  · simp only [Bool.false_eq_true, if_false, State.exitFailed]
    split
    · exact ticketsSound_setTarget h _ (by rfl) (by exact id)
    · exact ticketsSound_setHoldCause (ticketsSound_passIncident
        (ticketsSound_setTarget h _ (by rfl) (by exact fun hu => nomatch hu)) _)
  · simp only [if_true, State.entryFailed]
    split
    · refine ticketsSound_setHoldCause ?_
      split
      · exact ticketsSound_passIncident (ticketsSound_setTarget h _ (by rfl) (by exact fun hu => nomatch hu)) _
      · exact ticketsSound_setTarget h _ (by rfl) (by exact fun hu => nomatch hu)
    · exact ticketsSound_setTarget h _ (by rfl) (by exact id)

theorem ticketsSound_holdOutcome (l : LaneIx) (r : InFlight) (entry : Bool) (o : Outcome) :
    (s.holdOutcome l r entry o).ticketsSound := by
  cases o with
  | credited | deviation => exact ticketsSound_holdCredited h r entry
  | busy | noAnswer | timeout | rejected => exact ticketsSound_holdFailed h l r entry _
  | integrity => exact ticketsSound_holdFailed (ticketsSound_passIncident h _) l r entry _
  | abandoned =>
    exact ticketsSound_setHoldCause (ticketsSound_passIncident (ticketsSound_suspendDuties
      (ticketsSound_setTarget h _ (by rfl) (by exact fun hu => nomatch hu)) _) _)

theorem ticketsSound_takeOutcome (l : LaneIx) (r : InFlight) (o : Outcome) (good : Bool) :
    (s.takeOutcome l r o good).ticketsSound := by
  have howner : (s.ownerTakes l r o).ticketsSound := by
    unfold State.ownerTakes
    split
    · exact ticketsSound_dutyOutcome h l r _ o
    · exact ticketsSound_holdOutcome h l r true o
    · exact ticketsSound_holdOutcome h l r false o
  have hleft : (((s.ownerTakes l r o).reportToLane l o good).leaveBusy l r (s.quietTimeOf r) o).ticketsSound :=
    ticketsSound_of_views howner (by simp) (by simp) (by simp)
  unfold State.takeOutcome State.completeRetire
  split
  · split
    · exact ticketsSound_recordResult (ticketsSound_vacateDuty hleft _) _
    · exact hleft
  · exact hleft
  · exact hleft

-- The issue (R46, R58)

theorem ticketsSound_issue (l : LaneIx) (c : Candidate) : (s.issue l c).ticketsSound := by
  cases c with
  | exit g =>
    have hset : (s.setTarget g { s.target g with holdTransaction := .exitInFlight }).ticketsSound :=
      ticketsSound_setTarget h g rfl id
    exact ticketsSound_of_views hset (by simp [State.issue, State.issueHold, list_beginFrame])
      (by simp [State.issue, State.issueHold, duty_beginFrame]) (by simp [State.issue, State.issueHold, target_beginFrame])
  | entry g =>
    have hset : (s.setTarget g { s.target g with holdTransaction := .entryInFlight }).ticketsSound :=
      ticketsSound_setTarget h g rfl id
    exact ticketsSound_of_views hset (by simp [State.issue, State.issueHold, list_beginFrame])
      (by simp [State.issue, State.issueHold, duty_beginFrame]) (by simp [State.issue, State.issueHold, target_beginFrame])
  | duty d =>
    have hissued : ((s.removeTicket d).setDuty d { (s.removeTicket d).duty d with inFlight := true }).ticketsSound :=
      ticketsSound_of_removed h d (by simp) (by simp) (by simp)
    exact ticketsSound_of_views hissued (by simp [State.issue, State.issueDuty, list_beginFrame, list_takeLockOf])
      (by simp [State.issue, State.issueDuty, duty_beginFrame, duty_takeLockOf])
      (by simp [State.issue, State.issueDuty, target_beginFrame, target_takeLockOf])

end

/-- With every duty VACANT and every list empty nothing is owed to a list. -/
theorem ticketsSound_of_empty {s : State} (hduty : ∀ d, s.duty d = {}) (hlist : ∀ l, s.list l = []) : s.ticketsSound :=
  ⟨fun l d => by simp [hduty, hlist], fun l => by simp [hlist], fun d => by simp [hduty], fun d => by simp [hduty]⟩

theorem kept_ticketsSound : Kept State.ticketsSound where
  pending _ h := h
  latch _ h _ := h
  result _ h _ := h
  discard h := h
  snapshot _ h := h
  staging n v h := by unfold State.writeStaging; split <;> exact h
  collision h := h
  abort {s} h hworking := by
    rw [abort_of_working hworking]
    exact ticketsSound_recordResult (ticketsSound_setDuty (s := s.latch 0x30) h s.waitingDuty (by rfl) (by rfl) (by exact id) (by exact h.2.2.1 _)) _
  schedulerReset {s} _ := ticketsSound_of_empty (by simp) (by simp)
  pop h := h
  summary _ h := h
  enable _ h := h
  trim _ h := h
  window _ h := h
  epochRead _ h := h
  cycle h := by unfold State.refclkCycle; dsimp only; split <;> exact h
  reset _ := ticketsSound_of_empty (by simp) (by simp)
  powerOn {s} _ := ticketsSound_of_empty (duty_resetPin s) (list_resetPin s)
  defineDuty {s} d h hchecks := by
    have hstate : ¬(s.duty d).state = .running := fun hr => by
      simpa [hr] using hchecks _ (List.mem_cons_self ..)
    have htarget : s.noTarget (dutyStaging s.port.latched).target = false :=
      hchecks (s.noTarget (dutyStaging s.port.latched).target, .field) (by simp [State.defineDutyChecks])
    refine ticketsSound_setDuty_of h d ?_ (fun hx => nomatch hx) fun _ => ?_
    · exact (Bool.eq_false_iff.mpr fun ht => hstate (h.2.2.1 d ht).1).symm
    · unfold State.noTarget at htarget
      split at htarget
      · rename_i hlt
        have hfin : (dutyDefOf s.port.latched).target = ⟨(dutyStaging s.port.latched).target, hlt⟩ :=
          Fin.ext (Nat.mod_eq_of_lt hlt)
        simpa [hfin] using htarget
      · cases htarget
  startWaiting {s} d start h hstate _ := by
    refine ticketsSound_setDuty h d (by rfl) (by rfl) (fun _ => by simp [hstate]) fun ht => ?_
    exact absurd (h.2.2.1 d ht).1 (by simp [hstate])
  startNow {s} d start h hstate _ _ := by
    refine ticketsSound_startRunning (ticketsSound_setDuty h d (by rfl) (by rfl) (by exact id) ?_) d ?_
    · exact fun ht => absurd (h.2.2.1 d ht).1 (by simp [hstate])
    · simp [startedDuty, hstate]
  startTime d h hstate _ := ticketsSound_startRunning h d (by simp [hstate])
  stop d h hvacant _ := ticketsSound_stopDuty h d hvacant
  vacate d h _ _ := ticketsSound_vacateDuty h d
  retireWaits {s x} d h _ _ hstate _ hx := by
    have hxs : x.ticketsSound := by
      subst hx
      split
      · exact ticketsSound_stopDuty h d hstate
      · exact h
    have hset : (x.setDuty d { x.duty d with retirePending := true }).ticketsSound :=
      ticketsSound_setDuty hxs d (by rfl) (by rfl) (by exact id) (by exact hxs.2.2.1 d)
    exact hset
  revive {s} d h hstate := by
    refine ticketsSound_reportIfPressed (ticketsSound_offerTicket (ticketsSound_setDuty h d (by rfl) (by rfl) ?_ ?_) d) d
    · exact fun _ => by simp [hstate]
    · exact fun ht => absurd (h.2.2.1 d ht).1 (by simp [hstate])
  setOwed d v h _ _ := ticketsSound_setOwed h d v
  prod d h _ := ticketsSound_offerTicket (ticketsSound_setDuty h d (by rfl) (by rfl) (by exact id) (by exact h.2.2.1 d)) d
  clearCounts d h := ticketsSound_setDuty h d (by rfl) (by rfl) (by exact id) (by exact h.2.2.1 d)
  boundary d b h _ := ticketsSound_boundaryAt h d b
  defineTarget {s} g h hstate huse := by
    refine ticketsSound_setTarget_of_unused h g _ fun d hd hg => ?_
    rcases hstate with hu | ha
    · exact h.2.2.2 d hd (by simpa [State.targetOf, hg] using hu)
    · exact (inUse_eq_false_iff s g).mp (huse ha) d hd hg
  dropTarget {s} g h _ _ huse := ticketsSound_setTarget_of_unused h g _ ((inUse_eq_false_iff s g).mp huse)
  holdTarget g h _ _ := ticketsSound_setTarget h g (by rfl) (by exact fun hu => nomatch hu)
  releaseTarget {s} g h hstate := by
    refine ticketsSound_setTarget h g ?_ ?_
    · unfold releasedTarget
      split
      · split <;> rfl
      all_goals rfl
    · rcases hstate with hs | hs | hs <;> simp only [releasedTarget, hs]
      · split
        · exact fun hu => absurd hu (by simp)
        · exact fun hu => nomatch hu
      · exact fun hu => nomatch hu
      · exact fun hu => nomatch hu
  maximumHold g i h _ := ticketsSound_setHoldCause (ticketsSound_passIncident
    (ticketsSound_setTarget h g (by rfl) (by exact fun hu => nomatch hu)) i)
  settled g h _ := ticketsSound_setTarget h g (by rfl) (by exact fun hu => nomatch hu)
  configure _ _ h _ := h
  openLane _ h _ := h
  closeLane _ h _ := ticketsSound_of_views h (by simp) (by simp) (by simp)
  blackout _ _ _ h _ _ := h
  resume _ h _ := h
  clearSuspect _ h _ := h
  autoResume _ h _ _ := h
  quietEnd _ h _ := ticketsSound_of_views h (by simp) (by simp) (by simp)
  clockLine _ _ _ _ h := h
  record _ _ _ h _ _ _ _ := h
  outcome l r o good h _ := ticketsSound_takeOutcome h l r o good
  looks ls h hls := looks_kept_of_issue (P := State.ticketsSound) (fun _ l c hz _ => ticketsSound_issue hz l c) ls h hls

/-- Settles O57: tickets and due lists agree after every effect of a step. -/
theorem ticketsStayOnTheirLists : Obligations.TicketsStayOnTheirLists := fun _ _ h hstep => kept_ticketsSound.step h hstep

end Sys2Proof.Machine

/-! Every lane stays sound (R68, R118, R125, R126, R128): what the end of a transaction, a report and an issue leave in a lane. -/

namespace Sys2Proof.Machine

-- The lane under the end of a transaction (R64, R72, R75)

/-- A lane after step 3 of R72: SUSPECT after an INTEGRITY outcome, with its count cleared after a good check byte, and else as it
was (R75, R125, R126). -/
def Lane.reported (x : Lane) (now : Epoch) (o : Outcome) (goodCheck : Bool) : Lane :=
  if o = .integrity then suspectedLane x now else if goodCheck then { x with integrityCount := 0 } else x

theorem lane_reportToLane (s : State) (l : LaneIx) (o : Outcome) (good : Bool) (j : LaneIx) :
    (s.reportToLane l o good).lane j = if j = l then (s.lane l).reported s.now o good else s.lane j := by
  unfold State.reportToLane Lane.reported
  by_cases hj : j = l
  · subst hj
    rw [if_pos rfl]
    split_ifs <;> simp
  · rw [if_neg hj]
    split_ifs <;> simp [hj]

theorem lane_quietStart (s : State) (l : LaneIx) (d : DutyIx) (q : Nat) (o : Outcome) (j : LaneIx) :
    (s.quietStart l d q o).lane j =
      if j = l then
        if o ≠ .abandoned ∧ 0 < q then
          { s.lane l with
            activity := .quiet, quietEnd := some (satAdd s.now q)
            quietLock := if s.holdsLock d then (s.lockOf d).map fun g => (g, d) else none }
        else { s.lane l with activity := .idle }
      else s.lane j := by
  unfold State.quietStart
  by_cases hj : j = l
  · subst hj
    rw [if_pos rfl]
    by_cases hq : o ≠ .abandoned ∧ 0 < q
    · rw [if_pos hq, if_pos hq, lane_setLane, if_pos rfl]
    · rw [if_neg hq, if_neg hq, lane_releaseLockOf, lane_setLane, if_pos rfl]
  · rw [if_neg hj]
    split_ifs <;> simp [hj]

/-- The other lanes are not touched when a lane leaves BUSY. -/
theorem lane_leaveBusy_ne (s : State) (l : LaneIx) (r : InFlight) (q : Nat) (o : Outcome) {j : LaneIx} (hj : j ≠ l) :
    (s.leaveBusy l r q o).lane j = s.lane j := by
  unfold State.leaveBusy
  dsimp only
  split <;> simp [lane_quietStart, hj]

/-- A lane that leaves BUSY is QUIET with a quiet end, or IDLE with the quiet end it had (R64). -/
theorem lane_leaveBusy_self (s : State) (l : LaneIx) (r : InFlight) (q : Nat) (o : Outcome) :
    ∃ a e k, (s.leaveBusy l r q o).lane l = { (s.lane l).endFrame with activity := a, quietEnd := e, quietLock := k } ∧
      ((a = .quiet ∧ e.isSome = true) ∨ (a = .idle ∧ e = (s.lane l).endFrame.quietEnd)) := by
  unfold State.leaveBusy
  dsimp only
  split
  · rw [lane_quietStart, if_pos rfl]
    split
    · rw [lane_setLane, if_pos rfl]
      exact ⟨.quiet, some _, _, rfl, .inl ⟨rfl, rfl⟩⟩
    · rw [lane_setLane, if_pos rfl]
      exact ⟨.idle, (s.lane l).endFrame.quietEnd, (s.lane l).endFrame.quietLock, rfl, .inr ⟨rfl, rfl⟩⟩
  all_goals
    rw [lane_setLane, if_pos rfl, lane_setLane, if_pos rfl]
    exact ⟨.idle, (s.lane l).endFrame.quietEnd, (s.lane l).endFrame.quietLock, rfl, .inr ⟨rfl, rfl⟩⟩

/-- The lane's record is gone when it leaves BUSY (R68). -/
@[simp] theorem record_leaveBusy (s : State) (l : LaneIx) (r : InFlight) (q : Nat) (o : Outcome) (j : LaneIx) :
    (s.leaveBusy l r q o).record j = if j = l then none else s.record j := by
  unfold State.leaveBusy
  dsimp only
  split <;> simp

namespace Lane

variable {x : Lane} {r : Option InFlight}

/-- The end of a frame touches the pins and the waiting stop alone (R139). -/
theorem endFrame_eq (x : Lane) : ∃ p w, x.endFrame = { x with pins := p, stopWaiting := w } := by
  unfold endFrame
  split
  · exact ⟨_, _, rfl⟩
  · exact ⟨_, _, rfl⟩

theorem sound_default : ({} : Lane).sound none := by
  simp [Lane.sound]

/-- Configuration, pins and the clock line are no part of the claim. -/
theorem sound_of_fields {y : Lane} (h : x.sound r) (hgate : y.gate = x.gate) (hactivity : y.activity = x.activity)
    (hblackout : y.blackoutEnd = x.blackoutEnd) (hyield : y.yielding = x.yielding) (hrecovery : y.recoveryEnd = x.recoveryEnd)
    (hcount : y.integrityCount = x.integrityCount) (hlatched : y.latched = x.latched) (hquiet : y.quietEnd = x.quietEnd) :
    y.sound r := by
  unfold Lane.sound at h ⊢
  rw [hgate, hactivity, hblackout, hyield, hrecovery, hcount, hlatched, hquiet]
  exact h

/-- The end of a blackout, by a report or by itself (R123, R124). -/
theorem sound_resumed (h : x.sound r) (hgate : x.gate = .blackout) : (resumedLane x).sound r := by
  simp only [Lane.sound, resumedLane, hgate] at h ⊢
  simp_all

/-- A busy lane whose record is gone, after its report and with its activity set (R64, R75, R125, R126). -/
theorem sound_left {a : Activity} {e : Option Epoch} {k : Option (LockIx × DutyIx)} {p : Pins} {w : Bool}
    (h : x.sound r) (hbusy : x.activity = .busy) (now : Epoch) (o : Outcome) (good : Bool)
    (hleft : (a = .quiet ∧ e.isSome = true) ∨ (a = .idle ∧ e = x.quietEnd)) :
    ({ x.reported now o good with pins := p, stopWaiting := w, activity := a, quietEnd := e, quietLock := k } : Lane).sound
      none := by
  obtain ⟨_, hquiet, hclosed, hsuspect, hblackout, hyield, hrecovery, hcount, hopen, hlatched⟩ := h
  have hopened : x.gate = .opened ∨ x.gate = .blackout := by
    cases hg : x.gate with
    | closed => simp [hclosed hg] at hbusy
    | opened => exact .inl rfl
    | blackout => exact .inr rfl
    | suspect => exact absurd hbusy (hsuspect hg)
  have hlow := hopen hopened
  have hfree : x.latched = false := by
    by_contra hl
    have := (hlatched.mp (by simpa using hl)).2
    omega
  have hrec : x.recoveryEnd = none := by
    by_contra hr
    obtain ⟨hs, _⟩ := hrecovery (Option.isSome_iff_ne_none.mpr hr)
    simp [hs] at hopened
  have hnotBusy : a ≠ .busy := by rcases hleft with ⟨ha, _⟩ | ⟨ha, _⟩ <;> simp [ha]
  have hend : e.isSome = true ↔ a = .quiet := by
    rcases hleft with ⟨ha, he⟩ | ⟨ha, he⟩
    · simp [ha, he]
    · simp [ha, he, Option.isSome_iff_ne_none] at hquiet ⊢
      simpa [hbusy] using hquiet
  unfold Lane.reported
  split_ifs
  · simp only [Lane.sound, suspectedLane, hfree, Config.integrityLatch]
    refine ⟨by simp [hnotBusy], hend, by simp, by simp [hnotBusy], by simp, by simp, fun hr => ⟨trivial, ?_⟩, by omega, by simp, ?_⟩
    · by_contra hn
      have : 3 ≤ x.integrityCount + 1 := by omega
      simp [this] at hr
    · simp
      omega
  · have hnotSuspect : x.gate ≠ .suspect := by rcases hopened with hg | hg <;> simp [hg]
    have hnotClosed : x.gate ≠ .closed := by rcases hopened with hg | hg <;> simp [hg]
    exact ⟨by simp [hnotBusy], hend, fun hc => absurd hc hnotClosed, fun hs => absurd hs hnotSuspect, hblackout, hyield,
      by simp [hrec], by simp, by simp, by simp [hfree]⟩
  · have hnotSuspect : x.gate ≠ .suspect := by rcases hopened with hg | hg <;> simp [hg]
    have hnotClosed : x.gate ≠ .closed := by rcases hopened with hg | hg <;> simp [hg]
    exact ⟨by simp [hnotBusy], hend, fun hc => absurd hc hnotClosed, fun hs => absurd hs hnotSuspect, hblackout, hyield,
      by simp [hrec], hcount, hopen, by simp [hfree, hnotSuspect]⟩

end Lane

section

variable {s : State}

theorem lanesSound_of_views {t : State} (h : s.lanesSound) (hlane : ∀ l, t.lane l = s.lane l)
    (hrecord : ∀ l, t.record l = s.record l) : t.lanesSound :=
  fun l => hlane l ▸ hrecord l ▸ h l

theorem lanesSound_setLane (h : s.lanesSound) (l : LaneIx) {x : Lane} (hx : x.sound (s.record l)) :
    (s.setLane l x).lanesSound := by
  intro j
  by_cases hj : j = l
  · subst hj
    simpa using hx
  · simpa [hj] using h j

variable (h : s.lanesSound)
include h

theorem lanesSound_setHoldCause : s.setHoldCause.lanesSound := h
theorem lanesSound_passIncident (i : Incident) : (s.passIncident i).lanesSound := h
theorem lanesSound_setTarget (g : TargetIx) (x : Target) : (s.setTarget g x).lanesSound := h
theorem lanesSound_setDuty (d : DutyIx) (x : Duty) : (s.setDuty d x).lanesSound := h
theorem lanesSound_recordResult (r : CmdResult) : (s.recordResult r).lanesSound := h
theorem lanesSound_offerTicket (d : DutyIx) : (s.offerTicket d).lanesSound := lanesSound_of_views h (by simp) (by simp)

theorem lanesSound_pressedReport (l : LaneIx) : (s.pressedReport l).lanesSound := by
  by_cases hyields : (s.lane l).gate = .blackout ∧ (s.lane l).yielding = true
  · rw [pressedReport_of_yield s l hyields.1 hyields.2]
    exact lanesSound_setLane h l (Lane.sound_resumed (h l) hyields.1)
  · rw [pressedReport_of_not s l hyields]
    exact h

theorem lanesSound_reportIfPressed (d : DutyIx) : (s.reportIfPressed d).lanesSound := by
  unfold State.reportIfPressed
  split
  · exact lanesSound_pressedReport h _
  · exact h

theorem lanesSound_startRunning (d : DutyIx) : (s.startRunning d).lanesSound := by
  rw [startRunning_eq]
  exact lanesSound_reportIfPressed (lanesSound_offerTicket (lanesSound_setDuty h d _) d) d

theorem lanesSound_vacateDuty (d : DutyIx) : (s.vacateDuty d).lanesSound := by
  have hdropped : ((s.removeTicket d).dropCarriedLock d).lanesSound := by
    have hremoved : (s.removeTicket d).lanesSound := lanesSound_of_views h (by simp) (by simp)
    unfold State.dropCarriedLock
    dsimp only
    split
    · exact hremoved
    · split
      · exact lanesSound_setLane hremoved _ (Lane.sound_of_fields (hremoved _) rfl rfl rfl rfl rfl rfl rfl rfl)
      · exact hremoved
  unfold State.vacateDuty
  exact lanesSound_setDuty (lanesSound_of_views hdropped (by simp) (by simp)) d _

theorem lanesSound_setOwed (d : DutyIx) (v : Int) : (s.setOwed d v).lanesSound := by
  rw [setOwed_eq s d v _ rfl]
  have hoffered := lanesSound_offerTicket (lanesSound_setDuty h d ((s.duty d).withOwed v)) d
  generalize State.offerTicket _ d = z at hoffered ⊢
  have hremoved : (z.removeTicket d).lanesSound := lanesSound_of_views hoffered (by simp) (by simp)
  dsimp only
  split_ifs
  · exact lanesSound_reportIfPressed hremoved d
  · exact lanesSound_reportIfPressed hoffered d
  · exact hremoved
  · exact hoffered

theorem lanesSound_missBoundary (d : DutyIx) : (s.missBoundary d).lanesSound := by
  unfold State.missBoundary
  dsimp only
  exact lanesSound_of_views h (fun l => by split <;> rfl) (fun l => by split <;> rfl)

theorem lanesSound_boundaryAt (d : DutyIx) (b : Epoch) : (s.boundaryAt d b).lanesSound := by
  unfold State.boundaryAt
  dsimp only
  generalize ({ s.duty d with nextBoundary := boundaryAfter b (s.duty d).defn.interval } : Duty) = x
  split
  · split
    · exact lanesSound_reportIfPressed (lanesSound_offerTicket (lanesSound_setDuty (lanesSound_setDuty h d x) d _) d) d
    · exact lanesSound_reportIfPressed (lanesSound_setDuty (lanesSound_setDuty h d x) d _) d
  · split
    · exact lanesSound_offerTicket (lanesSound_missBoundary (lanesSound_setDuty h d x) d) d
    · exact lanesSound_missBoundary (lanesSound_setDuty h d x) d

-- Outcomes

theorem lanesSound_rebaseDuties (g : TargetIx) : (s.rebaseDuties g).lanesSound := by
  refine foldl_kept (P := State.lanesSound) (fun z d hz => ?_) _ h
  unfold State.rebaseDuty
  dsimp only
  split_ifs
  · exact lanesSound_reportIfPressed (lanesSound_offerTicket (lanesSound_setDuty hz d _) d) d
  · exact lanesSound_startRunning hz d
  · exact hz
  · exact hz

theorem lanesSound_holdOutcome (l : LaneIx) (r : InFlight) (entry : Bool) (o : Outcome) :
    (s.holdOutcome l r entry o).lanesSound := by
  have hcredited : (s.holdCredited r entry).lanesSound := by
    cases entry
    · exact lanesSound_setHoldCause (lanesSound_rebaseDuties (lanesSound_setTarget h _ _) _)
    · exact lanesSound_of_views h (by simp [State.holdCredited]) (by simp)
  cases o with
  | credited | deviation => exact hcredited
  | busy | noAnswer | timeout | rejected | integrity | abandoned =>
    exact lanesSound_of_views h (by simp [State.holdOutcome]) (by simp)

theorem lanesSound_ownerTakes (l : LaneIx) (r : InFlight) (o : Outcome) : (s.ownerTakes l r o).lanesSound := by
  unfold State.ownerTakes
  split
  · exact lanesSound_of_views h (by simp) (by simp)
  · exact lanesSound_holdOutcome h l r true o
  · exact lanesSound_holdOutcome h l r false o

/-- The end of a transaction: its lane leaves BUSY, and the others keep what the owner's step left them (R72). -/
theorem lanesSound_takeOutcome (l : LaneIx) (r : InFlight) (o : Outcome) (good : Bool) (hr : s.record l = some r) :
    (s.takeOutcome l r o good).lanesSound := by
  have howner := lanesSound_ownerTakes h l r o
  have hrecord : (s.ownerTakes l r o).record l = some r := by simpa using hr
  have hnow : (s.ownerTakes l r o).now = s.now := by simp
  generalize hz : s.ownerTakes l r o = z at howner hrecord hnow
  have hleft : ((z.reportToLane l o good).leaveBusy l r (s.quietTimeOf r) o).lanesSound := by
    intro j
    by_cases hj : j = l
    · subst hj
      obtain ⟨a, e, k, hlane, hactivity⟩ := lane_leaveBusy_self (z.reportToLane j o good) j r (s.quietTimeOf r) o
      have hreport : (z.reportToLane j o good).lane j = (z.lane j).reported z.now o good := by simp [lane_reportToLane]
      obtain ⟨p, w, hframe⟩ := Lane.endFrame_eq ((z.lane j).reported z.now o good)
      have hquiet : ((z.lane j).reported z.now o good).quietEnd = (z.lane j).quietEnd := by
        unfold Lane.reported suspectedLane
        split_ifs <;> rfl
      rw [hlane, hreport, hframe]
      rw [hreport, hframe] at hactivity
      have hnone : ((z.reportToLane j o good).leaveBusy j r (s.quietTimeOf r) o).record j = none := by
        simp [record_leaveBusy]
      rw [hnone]
      refine Lane.sound_left (howner j) ((howner j).1.mp (by simp [hrecord])) z.now o good ?_
      simpa [hquiet] using hactivity
    · have hother := howner j
      rw [lane_leaveBusy_ne _ _ _ _ _ hj, lane_reportToLane, if_neg hj]
      simpa [record_leaveBusy, hj] using hother
  unfold State.takeOutcome State.completeRetire
  rw [hz]
  split
  · split
    · exact lanesSound_recordResult (lanesSound_vacateDuty hleft _) _
    · exact hleft
  · exact hleft
  · exact hleft

/-- An issue makes a lane BUSY that was IDLE behind an OPEN gate, and gives it its record (R53, R58). -/
theorem lanesSound_issue (l : LaneIx) (c : Candidate) (hmay : s.mayIssue l = true) : (s.issue l c).lanesSound := by
  intro j
  by_cases hj : j = l
  · subst hj
    obtain ⟨p, hlane⟩ := lane_issue_self s j c
    obtain ⟨r, hrecord, _⟩ := record_issue_self s j c
    simp only [State.mayIssue, Bool.and_eq_true, decide_eq_true_eq] at hmay
    obtain ⟨hgate, hidle⟩ := hmay
    obtain ⟨_, hquiet, _, _, hblackout, hyield, hrecovery, hcount, hopen, hlatched⟩ := h j
    rw [hlane, hrecord]
    refine ⟨by simp, ?_, by simp [hgate], by simp [hgate], hblackout, hyield, hrecovery, hcount, hopen, hlatched⟩
    simpa [hidle] using hquiet
  · rw [lane_issue_ne s l c j hj, record_issue_ne s l c j hj]
    exact h j

omit h in
theorem lanesSound_of_reset {t : State} (hlane : ∀ l, (t.lane l).sound none) (hrecord : ∀ l, t.record l = none) :
    t.lanesSound := by
  intro l
  rw [hrecord]
  exact hlane l

omit h in
theorem lanesSound_schedulerReset (s : State) : s.schedulerReset.lanesSound := by
  refine lanesSound_of_reset (fun l => ?_) (by simp)
  rw [lane_schedulerReset]
  simp [Lane.sound, schedulerResetLane, closedLane]

omit h in
theorem lanesSound_resetPin (s : State) : s.resetPin.lanesSound := by
  refine lanesSound_of_reset (fun l => ?_) (by simp)
  rw [lane_resetPin]
  exact Lane.sound_of_fields Lane.sound_default rfl rfl rfl rfl rfl rfl rfl rfl

end

theorem kept_lanesSound : Kept State.lanesSound where
  pending _ h := h
  latch _ h _ := h
  result _ h _ := h
  discard h := h
  snapshot _ h := h
  staging n v h := by unfold State.writeStaging; split <;> exact h
  collision h := h
  abort {s} h hworking := by
    rw [abort_of_working hworking]
    exact h
  schedulerReset {s} _ := lanesSound_schedulerReset s
  pop h := h
  summary _ h := h
  enable _ h := h
  trim _ h := h
  window _ h := h
  epochRead _ h := h
  cycle {s} h := by
    intro l
    have hlane : s.refclkCycle.lane l = s.lane l := by unfold State.refclkCycle; dsimp only; split <;> rfl
    have hrecord : (s.refclkCycle.record l).isSome = (s.record l).isSome := by
      unfold State.refclkCycle
      dsimp only
      split
      · rw [record_markTick]
        split
        · rfl
        · exact Option.isSome_map
      · rfl
    have hsound := h l
    rw [hlane]
    unfold Lane.sound at hsound ⊢
    rwa [hrecord]
  reset {s} _ := lanesSound_resetPin s
  powerOn {s} _ := lanesSound_resetPin s
  defineDuty _ h _ := h
  startWaiting _ _ h _ _ := h
  startNow d _ h _ _ _ := lanesSound_startRunning (lanesSound_setDuty h d _) d
  startTime d h _ _ := lanesSound_startRunning h d
  stop d h _ _ := lanesSound_of_views h (by simp) (by simp)
  vacate d h _ _ := lanesSound_vacateDuty h d
  retireWaits {s x} d h _ _ _ _ hx := by
    have hxs : x.lanesSound := by
      subst hx
      split
      · exact lanesSound_of_views h (by simp) (by simp)
      · exact h
    exact lanesSound_setDuty hxs d { x.duty d with retirePending := true }
  revive d h _ := lanesSound_reportIfPressed (lanesSound_offerTicket (lanesSound_setDuty h d _) d) d
  setOwed d v h _ _ := lanesSound_setOwed h d v
  prod d h _ := lanesSound_offerTicket (lanesSound_setDuty h d _) d
  clearCounts _ h := h
  boundary d b h _ := lanesSound_boundaryAt h d b
  defineTarget _ h _ _ := h
  dropTarget _ h _ _ _ := h
  holdTarget _ h _ _ := h
  releaseTarget _ h _ := h
  maximumHold _ _ h _ := h
  settled _ h _ := h
  configure l c h _ := lanesSound_setLane h l (Lane.sound_of_fields (h l) rfl rfl rfl rfl rfl rfl rfl rfl)
  openLane {s} l h hgate := by
    obtain ⟨hbusy, hquiet, hclosed, _, hblackout, hyield, hrecovery, _, _, hlatched⟩ := h l
    have hidle := hclosed hgate
    refine lanesSound_setLane h l ?_
    simp only [hgate, hidle, Lane.sound] at hbusy hquiet hblackout hyield hrecovery hlatched ⊢
    simp_all
  closeLane {s} l h hrecord := by
    have hreleased : (s.releaseQuietLock l).lanesSound := lanesSound_of_views h (by simp) (by simp)
    refine lanesSound_setLane hreleased l ?_
    obtain ⟨_, _, _, _, _, _, _, hcount, _⟩ := h l
    simp [Lane.sound, closedLane, hrecord, hcount]
  blackout {s} l e y h hclosed hsuspect := by
    obtain ⟨hbusy, hquiet, _, _, _, _, hrecovery, hcount, hopen, hlatched⟩ := h l
    have hlow : (s.lane l).integrityCount ≤ 2 := hopen (by cases hg : (s.lane l).gate <;> simp_all)
    have hrec : (s.lane l).recoveryEnd = none := by
      by_contra hr
      exact hsuspect (hrecovery (Option.isSome_iff_ne_none.mpr hr)).1
    refine lanesSound_setLane h l ⟨hbusy, hquiet, by simp, by simp, by simp, by simp, by simp [hrec], hcount, fun _ => hlow, ?_⟩
    simpa [hsuspect] using hlatched
  resume l h hgate := lanesSound_setLane h l (Lane.sound_resumed (h l) hgate)
  clearSuspect {s} l h hgate := by
    obtain ⟨hbusy, hquiet, _, _, hblackout, hyield, _, _, _, _⟩ := h l
    refine lanesSound_setLane h l ⟨hbusy, hquiet, by simp, by simp, ?_, ?_, by simp, by simp, by simp, by simp⟩
    · simpa [hgate] using hblackout
    · simpa [hgate] using hyield
  autoResume {s} l h hgate hend := by
    obtain ⟨hbusy, hquiet, _, _, hblackout, hyield, hrecovery, hcount, _, hlatched⟩ := h l
    have hlow := (hrecovery hend).2
    refine lanesSound_setLane h l ⟨hbusy, hquiet, by simp, by simp, ?_, ?_, by simp, hcount, fun _ => hlow, ?_⟩
    · simpa [hgate] using hblackout
    · simpa [hgate] using hyield
    · have : (s.lane l).integrityCount ≠ 3 := by omega
      simpa [this] using hlatched
  quietEnd {s} l h hquiet := by
    have hreleased : (s.releaseQuietLock l).lanesSound := lanesSound_of_views h (by simp) (by simp)
    obtain ⟨hbusy, _, _, _, hrest⟩ := h l
    refine lanesSound_setLane hreleased l ?_
    rw [record_releaseQuietLock]
    refine ⟨?_, by simp, by simp, by simp, hrest⟩
    simpa [hquiet] using hbusy
  clockLine l _ _ _ h := lanesSound_setLane h l (Lane.sound_of_fields (h l) rfl rfl rfl rfl rfl rfl rfl rfl)
  record {s} l r q h hr _ _ _ := by
    intro j
    by_cases hj : j = l
    · subst hj
      have hsound := h j
      unfold Lane.sound at hsound ⊢
      simpa [hr] using hsound
    · simpa [hj] using h j
  outcome l r o good h hr := lanesSound_takeOutcome h l r o good hr
  looks ls h hls := looks_kept_of_issue (P := State.lanesSound) (fun _ l c hz hmay => lanesSound_issue hz l c hmay) ls h hls

/-- Settles O58: every lane stays sound under every effect of a step. -/
theorem lanesStaySound : Obligations.LanesStaySound := fun _ _ h hstep => kept_lanesSound.step h hstep

end Sys2Proof.Machine

/-! The blocks at rest. A block with nothing in flight, no ticket and no lock is consistent, which settles the reset state; and a
consistent state at rest whose next step is not consistent: a WAITING duty keeps its attempts when its Start time makes it RUNNING,
and the claim bounds the attempts of a WAITING duty by one more than those of a RUNNING one (R4, R10). -/

namespace Sys2Proof.Machine

/-- Nothing is in flight, on a list, in a queue or in a quiet time. -/
structure State.AtRest (s : State) : Prop where
  list : ∀ l, s.list l = []
  lock : ∀ k, s.lock k = none
  record : ∀ l, s.record l = none
  quietLock : ∀ l, (s.lane l).quietLock = none
  transaction : ∀ g, (s.target g).holdTransaction = .none
  ticket : ∀ d, (s.duty d).ticket = false
  inFlight : ∀ d, (s.duty d).inFlight = false
  catchUp : ∀ d, (s.duty d).catchUp = false
  nextBoundary : ∀ d, (s.duty d).nextBoundary = none
  retirePending : ∀ d, (s.duty d).retirePending = false
  port : s.port.state = .ready

namespace State.AtRest

variable {s : State} (h : s.AtRest)
include h

theorem ticketsSound (hnamed : ∀ d, (s.duty d).state ≠ .vacant → (s.targetOf d).holdState ≠ .undefined) : s.ticketsSound :=
  ⟨by simp [h.list, h.ticket], by simp [h.list], by simp [h.ticket], hnamed⟩

theorem recordsSound : s.recordsSound :=
  ⟨by simp [h.record], by simp [h.inFlight], by simp [h.transaction], by simp [h.transaction]⟩

theorem locksSound : s.locksSound := ⟨by simp [h.lock], by simp [h.quietLock]⟩

theorem portSound : s.portSound := fun d => by simp [h.retirePending, h.port]

theorem holdsSound (htarget : ∀ g, (s.target g).sound) : s.holdsSound := ⟨htarget, by simp [h.catchUp], by simp [h.nextBoundary]⟩

/-- At rest the blocks owe one another nothing but the names of the targets. -/
theorem consistent (hinc : s.inc.sound) (htime : s.time.sound) (howed : s.owedSound) (hlane : s.lanesSound)
    (htarget : ∀ g, (s.target g).sound) (hduty : ∀ d, (s.duty d).sound)
    (hnamed : ∀ d, (s.duty d).state ≠ .vacant → (s.targetOf d).holdState ≠ .undefined) : s.consistent :=
  ⟨hinc, htime, howed, h.ticketsSound hnamed, hlane, h.holdsSound htarget, hduty, h.recordsSound, h.locksSound, h.portSound⟩

end State.AtRest

theorem Duty.sound_default : ({} : Duty).sound := by
  unfold Duty.sound
  decide

theorem Target.sound_default : ({} : Target).sound := by
  unfold Target.sound
  decide

theorem atRest_reset : State.reset.AtRest where
  list := by simp
  lock := by simp
  record := by simp
  quietLock := by simp
  transaction := by simp
  ticket := by simp
  inFlight := by simp
  catchUp := by simp
  nextBoundary := by simp
  retirePending := by simp
  port := rfl

/-- Settles O53: the reset state is at rest, and each of its records is the default one. -/
theorem resetIsConsistent : Obligations.ResetIsConsistent := by
  refine atRest_reset.consistent IncidentUnit.sound_default TimeBase.sound_default (fun d => ?_) (fun l => ?_) (fun g => ?_)
    (fun d => ?_) (fun d hd => ?_)
  · simpa using Duty.owedSound_default
  · simpa using Lane.sound_default
  · simpa using Target.sound_default
  · simpa using Duty.sound_default
  · simp at hd

-- The step that is not consistent

/-- A WAITING duty whose Start time is reached, with one attempt more than its Retry limit. -/
def lateDuty : Duty := { defn := { startTime := some 0 }, state := .waiting, attempts := 1 }

/-- An ACTIVE target, and the late duty about to start. -/
def lateStart : State :=
  { (State.reset.setTarget 0 { holdState := .active }).setDuty 0 lateDuty with pending := [.startTime 0] }

theorem duty_lateStart (d : DutyIx) : lateStart.duty d = if d = 0 then lateDuty else {} := by
  show ((State.reset.setTarget 0 { holdState := .active }).setDuty 0 lateDuty).duty d = _
  simp

theorem target_lateStart (g : TargetIx) : lateStart.target g = if g = 0 then { holdState := .active } else {} := by
  show ((State.reset.setTarget 0 { holdState := .active }).setDuty 0 lateDuty).target g = _
  simp

theorem lane_lateStart (l : LaneIx) : lateStart.lane l = {} := lane_reset l

theorem record_lateStart (l : LaneIx) : lateStart.record l = none := record_reset l

theorem atRest_lateStart : lateStart.AtRest where
  list := list_reset
  lock := lock_reset
  record := record_reset
  quietLock l := by rw [lane_lateStart]
  transaction g := by rw [target_lateStart]; split <;> rfl
  ticket d := by rw [duty_lateStart]; split <;> rfl
  inFlight d := by rw [duty_lateStart]; split <;> rfl
  catchUp d := by rw [duty_lateStart]; split <;> rfl
  nextBoundary d := by rw [duty_lateStart]; split <;> rfl
  retirePending d := by rw [duty_lateStart]; split <;> rfl
  port := rfl

theorem consistent_lateStart : lateStart.consistent := by
  refine atRest_lateStart.consistent IncidentUnit.sound_default TimeBase.sound_default (fun d => ?_) (fun l => ?_) (fun g => ?_)
    (fun d => ?_) (fun d _ => ?_)
  · rw [duty_lateStart]
    split
    · simp [Duty.owedSound, DutyDef.owedInRange, lateDuty]
    · exact Duty.owedSound_default
  · rw [lane_lateStart, record_lateStart]
    exact Lane.sound_default
  · rw [target_lateStart]
    split
    · unfold Target.sound
      decide
    · exact Target.sound_default
  · rw [duty_lateStart]
    split
    · unfold Duty.sound
      decide
    · exact Duty.sound_default
  · have htarget : (lateStart.duty d).defn.target = 0 := by rw [duty_lateStart]; split <;> rfl
    simp [State.targetOf, htarget, target_lateStart]

/-- The late duty runs with the attempts that it waited with. -/
theorem step_lateStart : ∃ t, step lateStart = .next t ∧ (t.duty 0).state = .running ∧ (t.duty 0).attempts = 1 ∧
    (t.duty 0).defn.retryLimit = 0 := ⟨_, rfl, by decide +kernel⟩

/-- Refutes O59: START_TIME keeps the attempts of a WAITING duty, of which a consistent state allows one more than of a RUNNING
duty. -/
theorem not_everyStepKeepsTheBlocksConsistent : ¬ Obligations.EveryStepKeepsTheBlocksConsistent := by
  intro h
  obtain ⟨t, hstep, hstate, hattempts, hlimit⟩ := step_lateStart
  obtain ⟨_, _, _, _, _, _, hduties, _⟩ := h lateStart t consistent_lateStart hstep
  obtain ⟨_, _, _, _, hretries, _⟩ := hduties 0
  have := hretries hstate
  omega

end Sys2Proof.Machine

/-! What the operations on one duty do, field by field: the pressed report (R32, R124), a new record with its ticket offer
(R42, R45), and the stop (R11), in the words of the statements. -/

namespace Sys2Proof.Machine

-- The pressed report

/-- The report of a duty finds its lane in BLACKOUT with Yield set (R124). -/
def State.endsBlackout (s : State) (d : DutyIx) : Prop :=
  (s.accrues d = true ∧ (s.duty d).atLimit = true) ∧ (s.lane (s.laneOf d)).gate = .blackout ∧
    (s.lane (s.laneOf d)).yielding = true

theorem reportIfPressed_of_ends {s : State} {d : DutyIx} (h : s.endsBlackout d) :
    s.reportIfPressed d = (s.setLane (s.laneOf d) (resumedLane (s.lane (s.laneOf d)))).setLaneCause := by
  obtain ⟨⟨haccrues, hlimit⟩, hgate, hyield⟩ := h
  rw [State.reportIfPressed, haccrues, hlimit]
  exact pressedReport_of_yield s _ hgate hyield

theorem reportIfPressed_of_not {s : State} {d : DutyIx} (h : ¬s.endsBlackout d) : s.reportIfPressed d = s := by
  unfold State.reportIfPressed
  split
  · next hpressed =>
    rw [Bool.and_eq_true] at hpressed
    exact pressedReport_of_not s _ fun hlane => h ⟨hpressed, hlane⟩
  · rfl

theorem lane_reportIfPressed_ne (s : State) (d : DutyIx) {j : LaneIx} (hj : j ≠ s.laneOf d) :
    (s.reportIfPressed d).lane j = s.lane j := by
  by_cases h : s.endsBlackout d
  · rw [reportIfPressed_of_ends h]
    simp [hj]
  · rw [reportIfPressed_of_not h]

theorem atLimit_iff (x : Duty) : x.atLimit = true ↔ x.owed = (x.defn.deferLimit : Int) + 1 := decide_eq_true_iff

theorem accrues_iff (s : State) (d : DutyIx) :
    s.accrues d = true ↔ (s.duty d).state = .running ∧ (s.targetOf d).holdState.accruing = true := by
  simp [State.accrues]

/-- What the report of a duty does to its lane and to the incident unit (R32, R124). -/
theorem afterReport_reportIfPressed {s : State} {d : DutyIx} {pressed : Prop}
    (hpressed : pressed ↔ s.accrues d = true ∧ (s.duty d).atLimit = true) :
    s.afterReport (s.reportIfPressed d) (s.laneOf d) pressed := by
  refine ⟨fun h => ?_, fun h => ?_⟩ <;> rw [hpressed] at h
  · rw [reportIfPressed_of_ends h]
    exact ⟨by simp [resumedLane], rfl⟩
  · rw [reportIfPressed_of_not h]
    exact ⟨rfl, rfl⟩

-- A new record of a duty, with its ticket offer

section

variable {s : State} {d : DutyIx} {y : Duty}

theorem sameBeside_setDuty (s : State) (d : DutyIx) (y : Duty) (l : LaneIx) : s.sameBeside (s.setDuty d y) d l :=
  ⟨fun e he => by simp [he], fun _ => rfl, fun _ _ => ⟨rfl, rfl, rfl⟩, rfl, rfl, rfl⟩

theorem laneOf_setDuty_of_target (htarget : y.defn.target = (s.duty d).defn.target) : (s.setDuty d y).laneOf d = s.laneOf d := by
  simp [State.laneOf, State.targetOf, htarget]

theorem targetOf_setDuty_of_target (htarget : y.defn.target = (s.duty d).defn.target) :
    (s.setDuty d y).targetOf d = s.targetOf d := by
  simp [State.targetOf, htarget]

/-- A new record of a duty of the same target, offered a ticket (R42, R45). -/
theorem dutyChanged_offerTicket (htarget : y.defn.target = (s.duty d).defn.target) :
    s.dutyChanged ((s.setDuty d y).offerTicket d) d y False := by
  have hlane := laneOf_setDuty_of_target htarget
  refine ⟨⟨fun e he => ?_, fun g => ?_, fun j hj => ?_, ?_, ?_, ?_⟩, ⟨?_, ?_⟩, ⟨fun h => h.1.elim, fun _ => ?_⟩, ?_, fun k => ?_, ?_⟩
  · simp [duty_offerTicket, he]
  · simp
  · simp [list_offerTicket, hlane, hj]
  · simp
  · simp
  · simp
  · simp [duty_offerTicket]
  · simp [list_offerTicket, hlane]
  · simp
  · simp
  · simp
  · simp

/-- The report that follows changes the lane and the incident unit alone (R32, R124). -/
theorem State.dutyChanged.report {x : State} {pressed : Prop} (h : s.dutyChanged x d y False)
    (htarget : y.defn.target = (s.duty d).defn.target)
    (hpressed : pressed ↔ x.accrues d = true ∧ (x.duty d).atLimit = true) : s.dutyChanged (x.reportIfPressed d) d y pressed := by
  obtain ⟨⟨hduty, htargets, hothers, htime, hbus, hpending⟩, ⟨hoffered, hlist⟩, ⟨_, hquiet⟩, hrecord, hlock, hport⟩ := h
  obtain ⟨hlane, hinc⟩ := hquiet fun h => h.1.elim
  have hlaneOf : x.laneOf d = s.laneOf d := by
    have hdefn : y.offered.defn = y.defn := rfl
    simp [State.laneOf, State.targetOf, hoffered, htargets, hdefn, htarget]
  have hreport := afterReport_reportIfPressed hpressed
  rw [hlaneOf] at hreport
  unfold State.afterReport at hreport
  rw [hlane, hinc] at hreport
  refine ⟨⟨fun e he => ?_, fun g => ?_, fun j hj => ?_, ?_, ?_, ?_⟩, ⟨?_, ?_⟩, hreport, ?_, fun k => ?_, ?_⟩
  · rw [duty_reportIfPressed, hduty e he]
  · rw [target_reportIfPressed, htargets]
  · rw [lane_reportIfPressed_ne _ _ (hlaneOf ▸ hj), list_reportIfPressed, record_reportIfPressed]
    exact hothers j hj
  · rw [time_reportIfPressed, htime]
  · rw [busRead_reportIfPressed, hbus]
  · rw [pending_reportIfPressed, hpending]
  · rw [duty_reportIfPressed, hoffered]
  · rw [list_reportIfPressed, hlist]
  · rw [record_reportIfPressed, hrecord]
  · rw [lock_reportIfPressed, hlock]
  · rw [port_reportIfPressed, hport]

/-- A new record of a duty of the same target, offered a ticket, with its report (R32, R42). -/
theorem dutyChanged_reportIfPressed {pressed : Prop} (htarget : y.defn.target = (s.duty d).defn.target)
    (hpressed : pressed ↔ (y.state = .running ∧ (s.targetOf d).holdState.accruing = true) ∧
      y.owed = (y.defn.deferLimit : Int) + 1) :
    s.dutyChanged (((s.setDuty d y).offerTicket d).reportIfPressed d) d y pressed := by
  refine (dutyChanged_offerTicket htarget).report htarget ?_
  rw [accrues_iff, atLimit_iff, hpressed]
  simp [State.targetOf, duty_offerTicket, Duty.offered, htarget]

/-- A report that no press of the duty prompts changes nothing. -/
theorem State.dutyChanged.of_not {x : State} {pressed : Prop} (h : s.dutyChanged x d y False) (hpressed : ¬pressed) :
    s.dutyChanged x d y pressed := by
  rwa [eq_false hpressed]

end

-- The stop and the looks that follow

/-- The stop takes the duty off its list and suspends it, and nothing else (R11). -/
theorem stoppedAs_stopDuty (s : State) (d : DutyIx) : s.stoppedAs (s.stopDuty d) d := by
  refine ⟨by simp, ⟨fun e he => by simp [he], fun g => by simp, fun j hj => ⟨by simp, ?_, by simp⟩, by simp, by simp, by simp⟩,
    ?_, by simp, by simp, fun k => by simp, by simp⟩
  · simp [State.stopDuty, hj]
  · simp [State.stopDuty]

end Sys2Proof.Machine

/-! The duty commands and the deadlines of duties: a boundary (R28, R29), the stop (R11, R12), the start (R8 to R10), REVIVE DUTY
(R18), PROD DUTY (R38) and SET OWED (R40). -/

namespace Sys2Proof.Machine

-- Epochs and the fields of a duty

theorem boundaryAfter_of_le {e : Epoch} {n : Nat} (h : e.toNat + n ≤ 2 ^ 48 - 1) :
    ∃ b, boundaryAfter e n = some b ∧ b.toNat = e.toNat + n := by
  refine ⟨BitVec.ofNat 48 (e.toNat + n), if_pos (by simpa [Config.epochMax] using h), ?_⟩
  rw [BitVec.toNat_ofNat]
  exact Nat.mod_eq_of_lt (by omega)

theorem boundaryAfter_of_gt {e : Epoch} {n : Nat} (h : 2 ^ 48 - 1 < e.toNat + n) : boundaryAfter e n = none :=
  if_neg (by simpa [Config.epochMax] using h)

theorem accruing_iff (h : HoldState) : h.accruing = true ↔ h = .active ∨ h = .entering ∨ h = .settling := by
  cases h <;> decide

theorem wantsIssue_iff (x : Duty) : x.wantsIssue = true ↔ 1 ≤ x.owed ∨ x.catchUp = true ∨ x.forced = true := by
  simp [Duty.wantsIssue, or_assoc]

theorem getsTicket_iff (x : Duty) :
    x.getsTicket = true ↔ x.state = .running ∧ x.wantsIssue = true ∧ x.ticket = false ∧ x.inFlight = false := by
  simp [Duty.getsTicket, and_assoc]

theorem offered_of_getsTicket {x : Duty} (h : x.getsTicket = true) : x.offered = { x with ticket := true } := by
  simp [Duty.offered, h]

theorem offered_of_not {x : Duty} (h : x.getsTicket = false) : x.offered = x := by
  simp [Duty.offered, h]

theorem setDuty_setDuty (s : State) (d : DutyIx) (x y : Duty) : (s.setDuty d x).setDuty d y = s.setDuty d y := by
  simp [State.setDuty]

theorem setDuty_self (s : State) (d : DutyIx) : s.setDuty d (s.duty d) = s := by
  simp [State.setDuty, State.duty]

-- A boundary

theorem boundaryDue_of {s : State} {d : DutyIx} {b : Epoch} (haccrues : s.accrues d = true)
    (hnext : (s.duty d).nextBoundary = some b) (hreached : b.toNat ≤ s.now.toNat) : s.boundaryDue d = some b := by
  simp [State.boundaryDue, haccrues, hnext, reached, hreached]

theorem leaves_boundary {s : State} {d : DutyIx} {b : Epoch} (hdue : s.boundaryDue d = some b) :
    leaves (.boundary d) s (s.boundaryAt d b) [s.laneOf d] := by
  refine ⟨?_, looksAfter_looked _ _ _ (List.nodup_singleton _)⟩
  show execBoundary d s = _
  rw [execBoundary, hdue]

/-- A boundary below the limit raises Owed; where the duty then wants issue it is offered a ticket (R28). -/
theorem boundaryAt_of_below {s : State} {d : DutyIx} (b : Epoch) (hlow : (s.duty d).owed < (s.duty d).defn.deferLimit + 1) :
    s.boundaryAt d b =
      let z := s.setDuty d
        { s.duty d with nextBoundary := boundaryAfter b (s.duty d).defn.interval, owed := (s.duty d).owed + 1 }
      (if 1 ≤ (s.duty d).owed + 1 then z.offerTicket d else z).reportIfPressed d := by
  simp only [State.boundaryAt, if_pos hlow, setDuty_setDuty, duty_setDuty, if_true]

theorem dutyChanged_boundary {s : State} {d : DutyIx} (b : Epoch) (haccrues : s.accrues d = true) (howed : 0 ≤ (s.duty d).owed)
    (hlow : (s.duty d).owed ≤ (s.duty d).defn.deferLimit) :
    s.dutyChanged (s.boundaryAt d b) d
      { s.duty d with nextBoundary := boundaryAfter b (s.duty d).defn.interval, owed := (s.duty d).owed + 1 }
      ((s.duty d).owed = (s.duty d).defn.deferLimit) := by
  rw [boundaryAt_of_below b (by omega)]
  dsimp only
  rw [if_pos (by omega)]
  refine dutyChanged_reportIfPressed rfl ?_
  rw [accrues_iff] at haccrues
  exact ⟨fun h => ⟨haccrues, by simp [h]⟩, fun h => by simpa using h.2⟩

/-- A boundary that leaves Owed at 0 or below prompts neither an offer nor a report (R28). -/
theorem boundaryAt_of_negative {s : State} {d : DutyIx} (b : Epoch) (howed : (s.duty d).owed < 0) :
    s.boundaryAt d b = s.setDuty d
      { s.duty d with nextBoundary := boundaryAfter b (s.duty d).defn.interval, owed := (s.duty d).owed + 1 } := by
  rw [boundaryAt_of_below b (by omega)]
  dsimp only
  rw [if_neg (by omega)]
  refine reportIfPressed_of_not fun h => ?_
  have hlimit := (atLimit_iff _).mp h.1.2
  simp only [duty_setDuty, if_true] at hlimit
  omega

/-- A boundary at the limit is a miss (R29). -/
theorem boundaryAt_of_limit {s : State} {d : DutyIx} (b : Epoch) (howed : (s.duty d).owed = (s.duty d).defn.deferLimit + 1) :
    s.boundaryAt d b =
      ((s.setDuty d { s.duty d with nextBoundary := boundaryAfter b (s.duty d).defn.interval }).missBoundary d).offerTicket d := by
  simp only [State.boundaryAt]
  rw [if_neg (by omega), if_pos (by omega)]

/-- A duty record after a miss, with its count of misses saturated (R29). -/
def Duty.missed (x : Duty) : Duty := { x with overdue := true, misses := min (x.misses + 1) (max x.misses 65535) }

theorem missBoundary_eq (s : State) (d : DutyIx) :
    ∃ u, s.missBoundary d = (s.setDuty d (s.duty d).missed).withInc u ∧ ((s.duty d).overdue = true → u = s.inc) ∧
      ((s.duty d).overdue = false → u = s.inc.pass (overdueIncident s d)) := by
  have hmisses : (if (s.duty d).misses < Config.missesMax then (s.duty d).misses + 1 else (s.duty d).misses) =
      min ((s.duty d).misses + 1) (max (s.duty d).misses 65535) := by
    unfold Config.missesMax
    split <;> omega
  unfold State.missBoundary Duty.missed
  dsimp only
  rw [hmisses]
  cases hoverdue : (s.duty d).overdue
  · exact ⟨_, rfl, fun h => (nomatch h), fun _ => rfl⟩
  · exact ⟨_, rfl, fun _ => rfl, fun h => (nomatch h)⟩
@[simp] theorem time_withInc (s : State) (u : IncidentUnit) : (s.withInc u).time = s.time := rfl
@[simp] theorem port_withInc (s : State) (u : IncidentUnit) : (s.withInc u).port = s.port := rfl
@[simp] theorem busRead_withInc (s : State) (u : IncidentUnit) : (s.withInc u).busRead = s.busRead := rfl
@[simp] theorem pending_withInc (s : State) (u : IncidentUnit) : (s.withInc u).pending = s.pending := rfl

theorem offerTicket_withInc (s : State) (u : IncidentUnit) (d : DutyIx) :
    (s.withInc u).offerTicket d = (s.offerTicket d).withInc u := by
  unfold State.offerTicket
  rw [duty_withInc]
  split <;> rfl

/-- A new incident unit beside a duty that has changed. -/
theorem State.dutyChanged.withInc {s x : State} {d : DutyIx} {y : Duty} (h : s.dutyChanged x d y False) (u : IncidentUnit) :
    s.sameBeside (x.withInc u) d (s.laneOf d) ∧ s.ticketOffered (x.withInc u) d (s.laneOf d) y ∧
      (x.withInc u).lane (s.laneOf d) = s.lane (s.laneOf d) ∧ (x.withInc u).record (s.laneOf d) = s.record (s.laneOf d) ∧
      (∀ k, (x.withInc u).lock k = s.lock k) ∧ (x.withInc u).port = s.port := by
  obtain ⟨hbeside, hoffered, ⟨_, hquiet⟩, hrecord, hlock, hport⟩ := h
  obtain ⟨hlane, _⟩ := hquiet fun h => h.1.elim
  refine ⟨?_, ?_, hlane, hrecord, hlock, hport⟩
  · obtain ⟨hduty, htarget, hothers, htime, hbus, hpending⟩ := hbeside
    exact ⟨hduty, htarget, hothers, htime, hbus, hpending⟩
  · obtain ⟨hduty, hlist⟩ := hoffered
    exact ⟨hduty, hlist⟩

theorem overdueIncident_setDuty {s : State} {d : DutyIx} {y : Duty} (htarget : y.defn.target = (s.duty d).defn.target) :
    overdueIncident (s.setDuty d y) d =
      { kind := .overdue, epoch := s.now, lane := s.laneOf d, target := (s.duty d).defn.target, duty := some d } := by
  simp [overdueIncident, laneOf_setDuty_of_target htarget, htarget]

/-- A boundary at the limit: a miss, of which the first records its incident (R29, R31). -/
theorem missed_boundaryAt {s : State} {d : DutyIx} (b : Epoch) (howed : (s.duty d).owed = (s.duty d).defn.deferLimit + 1) :
    ∃ z u, s.boundaryAt d b = z.withInc u ∧
      s.dutyChanged z d ({ s.duty d with nextBoundary := boundaryAfter b (s.duty d).defn.interval } : Duty).missed False ∧
      ((s.duty d).overdue = true → u = s.inc) ∧
      ((s.duty d).overdue = false → u = s.inc.pass
        { kind := .overdue, epoch := s.now, lane := s.laneOf d, target := (s.duty d).defn.target, duty := some d }) := by
  have hmissed := missBoundary_eq (s.setDuty d { s.duty d with nextBoundary := boundaryAfter b (s.duty d).defn.interval }) d
  rw [overdueIncident_setDuty (by rfl)] at hmissed
  simp only [duty_setDuty, if_true, setDuty_setDuty, inc_setDuty] at hmissed
  obtain ⟨u, hmiss, hkept, hpassed⟩ := hmissed
  refine ⟨_, u, ?_, dutyChanged_offerTicket (by rfl), hkept, hpassed⟩
  rw [boundaryAt_of_limit b howed, hmiss, offerTicket_withInc]

/-- Settles O20: by the place of Owed below, at and above 0 and at the limit. -/
theorem boundaryRaisesOwedOrMisses : Obligations.BoundaryRaisesOwedOrMisses := by
  refine ⟨fun s d b haccrues hnext hreached _ => ⟨s.boundaryAt d b, leaves_boundary (boundaryDue_of haccrues hnext hreached),
    dutyChanged_boundary b haccrues, boundaryAt_of_negative b, fun howed => ?_⟩, accrues_iff, accruing_iff,
    fun e n => ⟨boundaryAfter_of_le, boundaryAfter_of_gt⟩,
    fun x => ⟨wantsIssue_iff x, getsTicket_iff x, offered_of_getsTicket, offered_of_not⟩⟩
  obtain ⟨z, u, heq, hchanged, hkept, hpassed⟩ := missed_boundaryAt b howed
  rw [heq]
  obtain ⟨hbeside, hoffered, hlane, hrecord, hlock, hport⟩ := hchanged.withInc u
  exact ⟨hbeside, hoffered, hlane, hrecord, hlock, hport, hkept, hpassed⟩

end Sys2Proof.Machine

/-! The duty commands: STOP DUTY and the Stop time (R11, R12), START DUTY and the Start time (R8 to R10), REVIVE DUTY (R18), PROD
DUTY (R38), SET OWED (R40) and RETIRE DUTY (R14, R15). -/

namespace Sys2Proof.Machine

theorem withDuty_of_index {n : Nat} {d : DutyIx} (hindex : n = d.val) (k : DutyIx → Answer) : withDuty n k = k d := by
  simp [withDuty, hindex]

-- STOP DUTY and the Stop time

theorem exec_stopDuty (s : State) : exec .stopDuty s = .next (s.command 0x03 answerStopDuty) := rfl

theorem answerStopDuty_of_index {s : State} {d : DutyIx} (hindex : stagedIndex s.port.latched = d.val) :
    answerStopDuty s =
      if (s.duty d).state = .vacant ∨ (s.duty d).state = .stopped then .refused .state
      else .done ((s.stopDuty d).looksAfter s [s.laneOf d]) := by
  rw [answerStopDuty, withDuty_of_index hindex, checked_singleton]
  simp

theorem stopTimeDue_iff (s : State) (d : DutyIx) :
    s.stopTimeDue d = true ↔
      ((s.duty d).state = .running ∨ (s.duty d).state = .waiting ∨ (s.duty d).state = .faulted) ∧
        presentAndReached s.now (s.duty d).defn.stopTime = true := by
  simp [State.stopTimeDue, or_assoc]

/-- Settles O21: both act by the same stop, after the checks of each. -/
theorem stopSuspendsTheDuty : Obligations.StopSuspendsTheDuty := by
  intro s d hstate
  refine ⟨fun hready hindex => ⟨(s.latch 0x03).stopDuty d, doneFrom_of_answer (exec_stopDuty s) hready
    (List.nodup_singleton (s.laneOf d)) ?_, stoppedAs_stopDuty (s.latch 0x03) d, by simp⟩, fun e hstop hreached => ?_⟩
  · have hgoes : ¬((s.duty d).state = .vacant ∨ (s.duty d).state = .stopped) := by
      rcases hstate with h | h | h <;> simp [h]
    rw [answerStopDuty_of_index (s := s.latch 0x03) hindex]
    exact if_neg hgoes
  · have hdue : s.stopTimeDue d = true :=
      (stopTimeDue_iff s d).mpr ⟨hstate, (presentAndReached_iff _ _).mpr ⟨e, hstop, hreached⟩⟩
    refine ⟨s.stopDuty d, ⟨?_, looksAfter_looked _ _ _ (List.nodup_singleton _)⟩, stoppedAs_stopDuty s d, by simp⟩
    show execStopTime d s = _
    rw [execStopTime, if_pos hdue]

-- START DUTY and the Start time

theorem exec_startDuty (s : State) : exec .startDuty s = .next (s.command 0x02 answerStartDuty) := rfl

theorem stopNotLater_iff (start stop : Option Epoch) :
    stopNotLater start stop = true ↔ ∃ a b, start = some a ∧ stop = some b ∧ b.toNat ≤ a.toNat := by
  cases start <;> cases stop <;> simp [stopNotLater]

theorem absentOrReached_iff (now : Epoch) (deadline : Option Epoch) :
    absentOrReached now deadline = true ↔ ∀ e, deadline = some e → e.toNat ≤ now.toNat := by
  cases deadline <;> simp [absentOrReached, reached]

theorem startTimeUsed_eq (s : State) (d : DutyIx) :
    s.startTimeUsed d =
      if (stagedStartTime s.port.latched).isSome = true then stagedStartTime s.port.latched else (s.duty d).defn.startTime := by
  unfold State.startTimeUsed
  cases stagedStartTime s.port.latched <;> rfl

/-- START DUTY of a STOPPED duty whose checks pass (R8, R9). -/
theorem answerStartDuty_of_accepted {s : State} {d : DutyIx} {start : Option Epoch}
    (hindex : stagedIndex s.port.latched = d.val) (hstate : (s.duty d).state = .stopped) (hflight : (s.duty d).inFlight = false)
    (hstart : s.startTimeUsed d = start) (hlater : stopNotLater start (s.duty d).defn.stopTime = false)
    (hstop : presentAndReached s.now (s.duty d).defn.stopTime = false) :
    answerStartDuty s =
      .done ((if s.startWaits d start = true then
          s.setDuty d { startedDuty (s.duty d) start with state := .waiting, nextBoundary := none }
        else (s.setDuty d (startedDuty (s.duty d) start)).startRunning d).looksAfter s [s.laneOf d]) := by
  rw [answerStartDuty, withDuty_of_index hindex, checked_of_pass]
  · simp only [hstart]
  · simp [State.startDutyChecks, hstate, hflight, hstart, hlater, hstop]

theorem startWaits_iff (s : State) (d : DutyIx) (start : Option Epoch) :
    s.startWaits d start = true ↔
      (∃ a, start = some a ∧ s.now.toNat < a.toNat) ∨ (s.targetOf d).holdState.accruing = false := by
  cases start <;> simp [State.startWaits, absentOrReached, reached]

/-- The start of a duty that is not RUNNING yet: a record with a fresh Next boundary, offered a ticket (R9, R10). -/
theorem dutyChanged_startRunning {s : State} {d : DutyIx} (haccruing : (s.targetOf d).holdState.accruing = true) :
    s.dutyChanged (s.startRunning d) d
      { s.duty d with state := .running, nextBoundary := boundaryAfter s.now (s.duty d).defn.interval }
      ((s.duty d).owed = ((s.duty d).defn.deferLimit : Int) + 1) := by
  rw [startRunning_eq]
  exact dutyChanged_reportIfPressed (by rfl) ⟨fun h => ⟨⟨rfl, haccruing⟩, h⟩, fun h => h.2⟩

/-- The same after another record of the duty. -/
theorem dutyChanged_setDuty_startRunning {s : State} {d : DutyIx} {x : Duty} (htarget : x.defn.target = (s.duty d).defn.target)
    (haccruing : (s.targetOf d).holdState.accruing = true) :
    s.dutyChanged ((s.setDuty d x).startRunning d) d
      { x with state := .running, nextBoundary := boundaryAfter s.now x.defn.interval }
      (x.owed = (x.defn.deferLimit : Int) + 1) := by
  rw [startRunning_eq]
  simp only [duty_setDuty, if_true, setDuty_setDuty, now_setDuty]
  exact dutyChanged_reportIfPressed (by exact htarget) ⟨fun h => ⟨⟨rfl, haccruing⟩, h⟩, fun h => h.2⟩

theorem startTimeDue_iff (s : State) (d : DutyIx) :
    s.startTimeDue d = true ↔
      (s.duty d).state = .waiting ∧ presentAndReached s.now (s.duty d).defn.startTime = true ∧
        (s.targetOf d).holdState.accruing = true := by
  simp [State.startTimeDue, and_assoc]

/-- Settles O40: by whether the start waits; the Start time of a WAITING duty starts it in the same way. -/
theorem startDutyWaitsOrRuns : Obligations.StartDutyWaitsOrRuns := by
  refine ⟨fun s d start y hready hindex hstate hflight hstart hlater hstop hy => ?_, fun s d e hstate hstart hreached hhold => ?_⟩
  · have hused : (s.latch 0x02).startTimeUsed d = start := (startTimeUsed_eq _ _).trans hstart.symm
    have hafter : stopNotLater start (s.duty d).defn.stopTime = false := by
      rw [Bool.eq_false_iff, ne_eq, stopNotLater_iff]
      rintro ⟨a, b, ha, hb, hle⟩
      exact absurd (hlater a b ha hb) (by omega)
    have hahead : presentAndReached s.now (s.duty d).defn.stopTime = false := by
      rw [Bool.eq_false_iff, ne_eq, presentAndReached_iff]
      rintro ⟨b, hb, hle⟩
      exact absurd (hstop b hb) (by omega)
    have hanswer := answerStartDuty_of_accepted (s := s.latch 0x02) hindex hstate hflight hused hafter hahead
    have hstarted : startedDuty (s.duty d) start = y := hy.symm
    have hwaits : (s.latch 0x02).startWaits d start = s.startWaits d start := rfl
    rw [hwaits, duty_latch, hstarted] at hanswer
    refine ⟨fun h => ?_, fun hreached hhold => ?_⟩
    · rw [if_pos ((startWaits_iff _ _ _).mpr ?_)] at hanswer
      · exact doneFrom_of_answer (exec_startDuty s) hready (List.nodup_singleton _) hanswer
      · refine h.imp_right fun hhold => ?_
        rcases hhold with h | h | h <;> rw [h] <;> rfl
    · have haccruing := (accruing_iff _).mpr hhold
      rw [if_neg ?_] at hanswer
      · refine ⟨_, doneFrom_of_answer (exec_startDuty s) hready (List.nodup_singleton _) hanswer, ?_⟩
        have hkept : y.defn.target = (s.duty d).defn.target ∧ y.defn.interval = (s.duty d).defn.interval ∧
            y.defn.deferLimit = (s.duty d).defn.deferLimit := by simp [hy]
        obtain ⟨htarget, hinterval, hlimit⟩ := hkept
        rw [← hinterval, ← hlimit]
        exact dutyChanged_setDuty_startRunning (s := s.latch 0x02) htarget haccruing
      · rw [startWaits_iff]
        rintro (⟨a, ha, hlt⟩ | h)
        · exact absurd (hreached a ha) (by omega)
        · rw [haccruing] at h
          cases h
  · have haccruing := (accruing_iff _).mpr hhold
    have hdue : s.startTimeDue d = true :=
      (startTimeDue_iff s d).mpr ⟨hstate, (presentAndReached_iff _ _).mpr ⟨e, hstart, hreached⟩, haccruing⟩
    refine ⟨s.startRunning d, ⟨?_, looksAfter_looked _ _ _ (List.nodup_singleton _)⟩, dutyChanged_startRunning haccruing⟩
    show execStartTime d s = _
    rw [execStartTime, if_pos hdue]

-- REVIVE DUTY

theorem exec_reviveDuty (s : State) : exec .reviveDuty s = .next (s.command 0x05 answerReviveDuty) := rfl

theorem answerReviveDuty_of_index {s : State} {d : DutyIx} (hindex : stagedIndex s.port.latched = d.val) :
    answerReviveDuty s =
      if (s.duty d).state ≠ .faulted then .refused .state
      else .done ((((s.setDuty d (s.revivedDuty d)).offerTicket d).reportIfPressed d).looksAfter s [s.laneOf d]) := by
  rw [answerReviveDuty, withDuty_of_index hindex, checked_singleton]
  simp

/-- Settles O41: a FAULTED duty gets its revived record, an offer and a report. -/
theorem reviveDutyKeepsTheDebt : Obligations.ReviveDutyKeepsTheDebt := by
  intro s d hready hindex hstate
  refine ⟨_, doneFrom_of_answer (exec_reviveDuty s) hready (List.nodup_singleton _) ?_,
    dutyChanged_reportIfPressed (s := s.latch 0x05) (y := (s.latch 0x05).revivedDuty d) (by rfl) ?_⟩
  · rw [answerReviveDuty_of_index (s := s.latch 0x05) hindex]
    exact if_neg (not_not.mpr hstate)
  · exact ⟨fun h => ⟨⟨rfl, h.1⟩, h.2⟩, fun h => ⟨h.1.2, h.2⟩⟩

-- PROD DUTY

theorem exec_prodDuty (s : State) : exec .prodDuty s = .next (s.command 0x07 answerProdDuty) := rfl

theorem answerProdDuty_of_index {s : State} {d : DutyIx} (hindex : stagedIndex s.port.latched = d.val) :
    answerProdDuty s =
      if (s.duty d).state ≠ .running then .refused .state
      else if (s.duty d).forced = true then .done s
      else .done (((s.setDuty d { s.duty d with forced := true }).offerTicket d).looksAfter s [s.laneOf d]) := by
  rw [answerProdDuty, withDuty_of_index hindex, checked_singleton]
  simp

-- SET OWED

theorem exec_setOwed (s : State) : exec .setOwed s = .next (s.command 0x06 answerSetOwed) := rfl

theorem owedOutside_iff (x : DutyDef) (v : Int) : owedOutside x.deferLimit x.advanceLimit v = true ↔ ¬x.owedInRange v := by
  simp only [owedOutside, DutyDef.owedInRange, decide_eq_true_eq]
  omega

theorem answerSetOwed_of_index {s : State} {d : DutyIx} (hindex : stagedIndex s.port.latched = d.val)
    (hstate : (s.duty d).state ≠ .vacant) :
    ((s.duty d).defn.owedInRange (stagedOwed s.port.latched) →
      answerSetOwed s = .done ((s.setOwed d (stagedOwed s.port.latched)).looksAfter s
        (if (s.setOwed d (stagedOwed s.port.latched)).duty d = s.duty d then [] else [s.laneOf d]))) ∧
    (¬(s.duty d).defn.owedInRange (stagedOwed s.port.latched) → answerSetOwed s = .refused .field) := by
  rw [answerSetOwed, withDuty_of_index hindex]
  dsimp only
  refine ⟨fun hin => checked_of_pass _ ?_, fun hout => ?_⟩
  · have : ¬owedOutside (s.duty d).defn.deferLimit (s.duty d).defn.advanceLimit (stagedOwed s.port.latched) = true := by
      rw [owedOutside_iff]
      exact not_not.mpr hin
    simp [hstate, this]
  · rw [(owedOutside_iff _ _).mpr hout]
    simp [Answer.checked, firstFailure, hstate]

theorem Duty.withOwed_eq (x : Duty) (v : Int) :
    x.withOwed v = { x with owed := v, overdue := x.overdue && decide ((x.defn.deferLimit : Int) < v) } := by
  by_cases h : v ≤ x.defn.deferLimit
  · simp [Duty.withOwed, h, Int.not_lt.mpr h]
  · simp [Duty.withOwed, h, Int.not_le.mp h]

theorem offerTicket_of_not {s : State} {d : DutyIx} (h : (s.duty d).getsTicket = false) : s.offerTicket d = s := by
  simp [State.offerTicket, h]

/-- SET OWED of a duty that then wants issue: a new record, offered a ticket, and a report where Owed was below the limit
(R40). -/
theorem dutyChanged_setOwed {s : State} {d : DutyIx} {v : Int}
    (hwants : 1 ≤ v ∨ (s.duty d).catchUp = true ∨ (s.duty d).forced = true) :
    s.dutyChanged (s.setOwed d v) d ((s.duty d).withOwed v)
      (s.accrues d = true ∧ v = ((s.duty d).defn.deferLimit : Int) + 1 ∧
        (s.duty d).owed < ((s.duty d).defn.deferLimit : Int) + 1) := by
  have hkeeps : ¬(v ≤ 0 ∧ (s.duty d).catchUp = false ∧ (s.duty d).forced = false) := by
    rintro ⟨hv, hcatchUp, hforced⟩
    rcases hwants with h | h | h
    · omega
    · simp [hcatchUp] at h
    · simp [hforced] at h
  rw [setOwed_eq s d v _ rfl]
  dsimp only
  rw [if_neg hkeeps]
  by_cases hlow : (s.duty d).owed < (s.duty d).defn.deferLimit + 1
  · rw [if_pos hlow]
    refine dutyChanged_reportIfPressed (by rfl) ?_
    rw [accrues_iff]
    exact ⟨fun h => ⟨h.1, h.2.1⟩, fun h => ⟨h.1, h.2, hlow⟩⟩
  · rw [if_neg hlow]
    exact (dutyChanged_offerTicket (by rfl)).of_not fun h => hlow h.2.2

/-- SET OWED of a duty that then wants no issue: a new record, and the ticket removed (R40). -/
theorem setOwed_of_idle {s : State} {d : DutyIx} {v : Int} (hv : v ≤ 0) (hcatchUp : (s.duty d).catchUp = false)
    (hforced : (s.duty d).forced = false) : s.setOwed d v = (s.setDuty d ((s.duty d).withOwed v)).removeTicket d := by
  have hnone : ((s.duty d).withOwed v).getsTicket = false := by
    rw [Bool.eq_false_iff, ne_eq, getsTicket_iff, wantsIssue_iff]
    rintro ⟨_, h | h | h, _⟩
    · exact absurd h (by simp only [Duty.withOwed]; omega)
    · simp [Duty.withOwed, hcatchUp] at h
    · simp [Duty.withOwed, hforced] at h
  rw [setOwed_eq s d v _ rfl, offerTicket_of_not (by simpa using hnone)]
  have hgone : v ≤ 0 ∧ (s.duty d).catchUp = false ∧ (s.duty d).forced = false := ⟨hv, hcatchUp, hforced⟩
  simp only [if_pos hgone]
  have hquiet : ¬((s.setDuty d ((s.duty d).withOwed v)).removeTicket d).endsBlackout d := by
    intro h
    have := (atLimit_iff _).mp h.1.2
    simp [Duty.withOwed] at this
    omega
  rw [reportIfPressed_of_not hquiet, ite_self]

/-- A new record of a duty of the same target, and its ticket removed (R46). -/
theorem removeTicket_setDuty {s : State} {d : DutyIx} {y : Duty} (htarget : y.defn.target = (s.duty d).defn.target) :
    s.sameBeside ((s.setDuty d y).removeTicket d) d (s.laneOf d) ∧
      ((s.setDuty d y).removeTicket d).duty d = { y with ticket := false } ∧
      ((s.setDuty d y).removeTicket d).list (s.laneOf d) = (s.list (s.laneOf d)).filter (fun e => e ≠ d) ∧
      ((s.setDuty d y).removeTicket d).lane (s.laneOf d) = s.lane (s.laneOf d) ∧
      ((s.setDuty d y).removeTicket d).record (s.laneOf d) = s.record (s.laneOf d) ∧
      (∀ k, ((s.setDuty d y).removeTicket d).lock k = s.lock k) ∧ ((s.setDuty d y).removeTicket d).inc = s.inc ∧
      ((s.setDuty d y).removeTicket d).port = s.port := by
  have hlane := laneOf_setDuty_of_target htarget
  refine ⟨⟨fun e he => ?_, fun g => ?_, fun j hj => ?_, ?_, ?_, ?_⟩, ?_, ?_, ?_, ?_, fun k => ?_, ?_, ?_⟩
  · simp [he]
  · simp
  · simp only [lane_removeTicket, list_removeTicket, record_removeTicket, hlane, if_neg hj]
    exact ⟨rfl, rfl, rfl⟩
  · simp
  · simp
  · simp
  · simp
  · simp only [list_removeTicket, hlane, if_true, list_setDuty]
  all_goals simp

/-- Settles O42: PROD DUTY and SET OWED each leave one new record of the duty; what a SET OWED to 0 or below leaves depends on
whether the duty still wants issue. -/
theorem prodDutyAndSetOwed : Obligations.ProdDutyAndSetOwed := by
  refine ⟨fun s d hready hindex hstate => ⟨fun hforced => ?_, fun hforced => ?_⟩, fun s d v hready hindex hv hstate => ?_⟩
  · refine ⟨_, doneFrom_of_answer (exec_prodDuty s) hready (List.nodup_singleton (s.laneOf d)) ?_,
      dutyChanged_offerTicket (s := s.latch 0x07) (y := { s.duty d with forced := true }) (by rfl)⟩
    rw [answerProdDuty_of_index (s := s.latch 0x07) hindex]
    exact (if_neg (not_not.mpr hstate)).trans (if_neg (Bool.eq_false_iff.mp hforced))
  · refine exec_of_answer_done (exec_prodDuty s) hready ?_
    rw [answerProdDuty_of_index (s := s.latch 0x07) hindex]
    exact (if_neg (not_not.mpr hstate)).trans (if_pos hforced)
  · subst hv
    obtain ⟨hdone, hrefused⟩ := answerSetOwed_of_index (s := s.latch 0x06) hindex hstate
    have hlanes : (if ((s.latch 0x06).setOwed d (stagedOwed s.port.staging)).duty d = s.duty d then []
        else [s.laneOf d]).Nodup := by split <;> simp
    refine ⟨fun hout => refuses_of_answer (exec_setOwed s) hready (hrefused hout), fun hin hwants =>
      ⟨_, doneFrom_of_answer (exec_setOwed s) hready hlanes (hdone hin), ?_⟩, fun hin hlow hcatchUp hforced =>
      ⟨_, doneFrom_of_answer (exec_setOwed s) hready hlanes (hdone hin), ?_⟩⟩
    · rw [← Duty.withOwed_eq]
      exact dutyChanged_setOwed (s := s.latch 0x06) hwants
    · have hpast : ¬((s.duty d).defn.deferLimit : Int) < stagedOwed s.port.staging := by omega
      have heq : (s.latch 0x06).setOwed d (stagedOwed s.port.staging) =
          ((s.latch 0x06).setDuty d ((s.duty d).withOwed (stagedOwed s.port.staging))).removeTicket d :=
        setOwed_of_idle hlow hcatchUp hforced
      rw [heq, Duty.withOwed_eq]
      obtain ⟨hbeside, hduty, hrest⟩ := removeTicket_setDuty (s := s.latch 0x06) (d := d)
        (y := { s.duty d with
          owed := stagedOwed s.port.staging
          overdue := (s.duty d).overdue && decide (((s.duty d).defn.deferLimit : Int) < stagedOwed s.port.staging) }) rfl
      exact ⟨hbeside, by rw [hduty]; simp [hpast], hrest⟩

end Sys2Proof.Machine

/-! RETIRE DUTY (R14, R15, R167): what vacating a duty does, field by field, and the wait for a transaction in flight. -/

namespace Sys2Proof.Machine

-- Vacating a duty

theorem laneOf_removeTicket (s : State) (d : DutyIx) : (s.removeTicket d).laneOf d = s.laneOf d := by
  simp [State.laneOf, State.targetOf]

theorem lockOf_removeTicket (s : State) (d : DutyIx) : (s.removeTicket d).lockOf d = s.lockOf d := by
  simp [State.lockOf]

theorem lock_releaseLockOf (s : State) (d : DutyIx) (k : LockIx) :
    (s.releaseLockOf d).lock k = if s.lockOf d = some k ∧ s.lock k = some d then none else s.lock k := by
  unfold State.releaseLockOf
  cases hlock : s.lockOf d with
  | none => simp
  | some g =>
    simp only [lock_releaseLock, Option.some.injEq]
    by_cases hk : k = g
    · simp [hk]
    · simp [hk, Ne.symm hk]

/-- The quiet time of the lane carries a lock of the duty (R64). -/
def Lane.carries (x : Lane) (d : DutyIx) : Prop := ∃ g, x.quietLock = some (g, d)

theorem dropCarriedLock_of_carries {s : State} {d : DutyIx} (h : (s.lane (s.laneOf d)).carries d) :
    s.dropCarriedLock d = s.setLane (s.laneOf d) { s.lane (s.laneOf d) with quietLock := none } := by
  obtain ⟨g, hg⟩ := h
  simp [State.dropCarriedLock, hg]

theorem dropCarriedLock_of_not {s : State} {d : DutyIx} (h : ¬(s.lane (s.laneOf d)).carries d) : s.dropCarriedLock d = s := by
  unfold State.dropCarriedLock
  dsimp only
  split
  · rfl
  · next g e hquiet =>
    split
    · next he => exact absurd ⟨g, he ▸ hquiet⟩ h
    · rfl

/-- Of the lanes only the duty's own may lose the lock that its quiet time carries (log 13). -/
theorem lane_vacateDuty_ne (s : State) (d : DutyIx) {j : LaneIx} (hj : j ≠ s.laneOf d) : (s.vacateDuty d).lane j = s.lane j := by
  simp only [State.vacateDuty, lane_setDuty, lane_releaseLockOf]
  by_cases h : ((s.removeTicket d).lane ((s.removeTicket d).laneOf d)).carries d
  · rw [dropCarriedLock_of_carries h, lane_setLane, laneOf_removeTicket, if_neg hj, lane_removeTicket]
  · rw [dropCarriedLock_of_not h, lane_removeTicket]

theorem lane_vacateDuty_self (s : State) (d : DutyIx) :
    ((s.lane (s.laneOf d)).carries d →
      (s.vacateDuty d).lane (s.laneOf d) = { s.lane (s.laneOf d) with quietLock := none }) ∧
    (¬(s.lane (s.laneOf d)).carries d → (s.vacateDuty d).lane (s.laneOf d) = s.lane (s.laneOf d)) := by
  have hlane : (s.removeTicket d).lane ((s.removeTicket d).laneOf d) = s.lane (s.laneOf d) := by
    rw [laneOf_removeTicket, lane_removeTicket]
  simp only [State.vacateDuty, lane_setDuty, lane_releaseLockOf]
  refine ⟨fun h => ?_, fun h => ?_⟩
  · rw [dropCarriedLock_of_carries (hlane ▸ h), hlane, laneOf_removeTicket, lane_setLane, if_pos rfl]
  · rw [dropCarriedLock_of_not (hlane ▸ h), lane_removeTicket]

theorem lane_vacateDuty_quietLock (s : State) (d : DutyIx) :
    (s.vacateDuty d).lane (s.laneOf d) =
      { s.lane (s.laneOf d) with quietLock := ((s.vacateDuty d).lane (s.laneOf d)).quietLock } := by
  obtain ⟨hdrops, hkeeps⟩ := lane_vacateDuty_self s d
  by_cases h : (s.lane (s.laneOf d)).carries d
  · rw [hdrops h]
  · rw [hkeeps h]

theorem list_vacateDuty (s : State) (d : DutyIx) (j : LaneIx) :
    (s.vacateDuty d).list j = if j = s.laneOf d then (s.list j).filter fun e => e ≠ d else s.list j := by
  simp [State.vacateDuty]

theorem lock_vacateDuty (s : State) (d : DutyIx) (k : LockIx) :
    (s.vacateDuty d).lock k = if s.lockOf d = some k ∧ s.lock k = some d then none else s.lock k := by
  have hlockOf : ((s.removeTicket d).dropCarriedLock d).lockOf d = s.lockOf d := by
    simp [State.lockOf]
  simp only [State.vacateDuty, lock_setDuty, lock_releaseLockOf, hlockOf, lock_dropCarriedLock, lock_removeTicket]

theorem sameBeside_vacateDuty (s : State) (d : DutyIx) : s.sameBeside (s.vacateDuty d) d (s.laneOf d) := by
  refine ⟨fun e he => by simp [he], fun g => by simp, fun j hj => ⟨lane_vacateDuty_ne s d hj, ?_, by simp⟩, by simp, by simp,
    by simp⟩
  rw [list_vacateDuty, if_neg hj]

-- RETIRE DUTY

theorem exec_retireDuty (s : State) : exec .retireDuty s = .next (s.command 0x04 answerRetireDuty) := rfl

theorem answerRetireDuty_of_free {s : State} {d : DutyIx} (hindex : stagedIndex s.port.latched = d.val)
    (hstate : (s.duty d).state ≠ .vacant) (hflight : (s.duty d).inFlight = false) :
    answerRetireDuty s = .done ((s.vacateDuty d).looksAfter s [s.laneOf d]) := by
  rw [answerRetireDuty, withDuty_of_index hindex, checked_singleton]
  simp [hstate, hflight]

/-- The duty stopped, if it was RUNNING, and Retire pending set (R15). -/
def State.retireWaiting (s : State) (d : DutyIx) : State :=
  let x := if (s.duty d).state = .running then s.stopDuty d else s
  x.setDuty d { x.duty d with retirePending := true }

theorem answerRetireDuty_of_inFlight {s : State} {d : DutyIx} (hindex : stagedIndex s.port.latched = d.val)
    (hstate : (s.duty d).state ≠ .vacant) (hflight : (s.duty d).inFlight = true) :
    answerRetireDuty s = .waits (s.retireWaiting d) := by
  rw [answerRetireDuty, withDuty_of_index hindex, checked_singleton]
  simp [hstate, hflight, State.retireWaiting]

/-- RETIRE DUTY with a transaction in flight takes the port to WORKING, with no result (R167). -/
theorem exec_retireDuty_of_inFlight {s : State} {d : DutyIx} (hready : s.port.state = .ready)
    (hindex : stagedIndex s.port.staging = d.val) (hstate : (s.duty d).state ≠ .vacant) (hflight : (s.duty d).inFlight = true) :
    exec .retireDuty s = .next { (s.latch 0x04).retireWaiting d with
      port := { ((s.latch 0x04).retireWaiting d).port with state := .working } } := by
  rw [exec_retireDuty, command_of_ready hready, answerRetireDuty_of_inFlight (s := s.latch 0x04) hindex hstate hflight]
  rfl

section

variable (s : State) (d : DutyIx)

theorem port_retireWaiting : (s.retireWaiting d).port = s.port := by
  unfold State.retireWaiting
  dsimp only
  split <;> simp

theorem duty_retireWaiting_of_running (h : (s.duty d).state = .running) :
    (s.retireWaiting d).duty d = { s.duty d with
      state := .stopped, ticket := false, catchUp := false, forced := false, nextBoundary := none, retirePending := true } := by
  simp [State.retireWaiting, h]

theorem duty_retireWaiting_of_not (h : (s.duty d).state ≠ .running) :
    (s.retireWaiting d).duty d = { s.duty d with retirePending := true } := by
  simp [State.retireWaiting, h]

theorem list_retireWaiting_of_running (h : (s.duty d).state = .running) :
    (s.retireWaiting d).list (s.laneOf d) = (s.list (s.laneOf d)).filter fun e => e ≠ d := by
  obtain ⟨_, _, hlist, _⟩ := stoppedAs_stopDuty s d
  simp only [State.retireWaiting, if_pos h, list_setDuty]
  exact hlist

theorem list_retireWaiting_of_not (h : (s.duty d).state ≠ .running) (j : LaneIx) : (s.retireWaiting d).list j = s.list j := by
  simp [State.retireWaiting, h]

/-- The wait begins in the duty and its due list alone (R15). -/
theorem sameBeside_retireWaiting : s.sameBeside (s.retireWaiting d) d (s.laneOf d) ∧
    (s.retireWaiting d).lane (s.laneOf d) = s.lane (s.laneOf d) ∧
    (s.retireWaiting d).record (s.laneOf d) = s.record (s.laneOf d) ∧ (∀ k, (s.retireWaiting d).lock k = s.lock k) ∧
    (s.retireWaiting d).inc = s.inc := by
  by_cases h : (s.duty d).state = .running
  · obtain ⟨_, ⟨hduty, htarget, hothers, htime, hbus, hpending⟩, _, hlane, hrecord, hlock, hinc⟩ := stoppedAs_stopDuty s d
    have heq : s.retireWaiting d = (s.stopDuty d).setDuty d { (s.stopDuty d).duty d with retirePending := true } := by
      simp only [State.retireWaiting, if_pos h]
    rw [heq]
    exact ⟨⟨fun e he => by rw [duty_setDuty, if_neg he, hduty e he], htarget, hothers, htime, hbus, hpending⟩, hlane, hrecord,
      hlock, hinc⟩
  · have heq : s.retireWaiting d = s.setDuty d { s.duty d with retirePending := true } := by
      simp only [State.retireWaiting, if_neg h]
    rw [heq]
    exact ⟨sameBeside_setDuty s d _ _, rfl, rfl, fun _ => rfl, rfl⟩

end

/-- A state of the port beside the other blocks. -/
theorem sameBeside_port {s x : State} {d : DutyIx} {l : LaneIx} (h : s.sameBeside x d l) (p : Port) :
    s.sameBeside { x with port := p } d l := by
  obtain ⟨hduty, htarget, hothers, htime, hbus, hpending⟩ := h
  exact ⟨hduty, htarget, hothers, htime, hbus, hpending⟩

/-- Settles O7: with nothing in flight the duty is vacated, and else it is stopped if it runs and waits. -/
theorem retireVacatesOrWaits : Obligations.RetireVacatesOrWaits := by
  intro s d hready hindex
  refine ⟨fun hflight hstate => ?_, fun hflight hstate => ?_⟩
  · refine ⟨(s.latch 0x04).vacateDuty d, doneFrom_of_answer (exec_retireDuty s) hready (List.nodup_singleton (s.laneOf d))
      (answerRetireDuty_of_free (s := s.latch 0x04) hindex hstate hflight), by simp, sameBeside_vacateDuty (s.latch 0x04) d, ?_,
      lock_vacateDuty (s.latch 0x04) d, lane_vacateDuty_quietLock (s.latch 0x04) d, by simp, by simp, by simp⟩
    exact (list_vacateDuty (s.latch 0x04) d (s.laneOf d)).trans (if_pos rfl)
  · have hpresent : (s.duty d).state ≠ .vacant := by rcases hstate with h | h <;> simp [h]
    obtain ⟨hbeside, hlane, hrecord, hlock, hinc⟩ := sameBeside_retireWaiting (s.latch 0x04) d
    refine ⟨_, exec_retireDuty_of_inFlight hready hindex hpresent hflight,
      fun hrun => ⟨duty_retireWaiting_of_running (s.latch 0x04) d hrun, list_retireWaiting_of_running (s.latch 0x04) d hrun⟩,
      fun hstopped => ?_, sameBeside_port hbeside _, hlane, hrecord, hlock, hinc, ?_⟩
    · have hrun : (s.duty d).state ≠ .running := by simp [hstopped]
      exact ⟨duty_retireWaiting_of_not (s.latch 0x04) d hrun, list_retireWaiting_of_not (s.latch 0x04) d hrun _⟩
    · rw [port_retireWaiting]
      rfl

end Sys2Proof.Machine

/-! The end of a transaction (R64, R72, R75): what its lane, its record and its lock are afterwards, whatever its owner makes of
the outcome. -/

namespace Sys2Proof.Machine

-- The frame that ends

/-- The state with another record of the lane's transaction and another input of its clock line: what a last report of a frame
leaves before the outcome is taken. -/
def State.reframed (s : State) (l : LaneIx) (held : Bool) (q : Option InFlight) : State :=
  (s.setLane l { s.lane l with lineHeld := held }).setRecord l q

section

variable (s : State) (l : LaneIx) (held : Bool) (q : Option InFlight)

@[simp] theorem duty_reframed (d : DutyIx) : (s.reframed l held q).duty d = s.duty d := rfl
@[simp] theorem target_reframed (g : TargetIx) : (s.reframed l held q).target g = s.target g := rfl
@[simp] theorem list_reframed (j : LaneIx) : (s.reframed l held q).list j = s.list j := rfl
@[simp] theorem lock_reframed (k : LockIx) : (s.reframed l held q).lock k = s.lock k := rfl
@[simp] theorem time_reframed : (s.reframed l held q).time = s.time := rfl
@[simp] theorem inc_reframed : (s.reframed l held q).inc = s.inc := rfl
@[simp] theorem port_reframed : (s.reframed l held q).port = s.port := rfl
@[simp] theorem busRead_reframed : (s.reframed l held q).busRead = s.busRead := rfl
@[simp] theorem pending_reframed : (s.reframed l held q).pending = s.pending := rfl
@[simp] theorem now_reframed : (s.reframed l held q).now = s.now := rfl

theorem lane_reframed (j : LaneIx) :
    (s.reframed l held q).lane j = if j = l then { s.lane l with lineHeld := held } else s.lane j := by
  simp [State.reframed]

theorem record_reframed (j : LaneIx) : (s.reframed l held q).record j = if j = l then q else s.record j := by
  simp [State.reframed]

theorem setLane_self : s.setLane l (s.lane l) = s := by
  simp [State.setLane, State.lane]

theorem setRecord_self : s.setRecord l (s.record l) = s := by
  simp [State.setRecord, State.record]

theorem reframed_record : s.reframed l (s.lane l).lineHeld q = s.setRecord l q := by
  rw [State.reframed, setLane_self]

theorem reframed_self : s.reframed l (s.lane l).lineHeld (s.record l) = s := by
  rw [reframed_record, setRecord_self]

theorem reframed_held : s.reframed l held (s.record l) = s.setLane l { s.lane l with lineHeld := held } :=
  setRecord_self (s.setLane l { s.lane l with lineHeld := held }) l

end

-- The lane after its report

theorem Lane.reported_of_quiet {x : Lane} {o : Outcome} (now : Epoch) (good : Bool) (h : o ≠ .integrity) :
    x.reported now o good = { x with integrityCount := if good = true then 0 else x.integrityCount } := by
  cases good <;> simp [Lane.reported, h]

theorem Lane.reported_integrity (x : Lane) (now : Epoch) (good : Bool) : x.reported now .integrity good = suspectedLane x now :=
  if_pos rfl

/-- The report keeps the configuration, the pins and the clock line of its lane. -/
theorem Lane.reported_frame (x : Lane) (now : Epoch) (o : Outcome) (good : Bool) :
    ∃ g b y c n e, x.reported now o good = { x with
      gate := g, blackoutEnd := b, yielding := y, integrityCount := c, latched := n, recoveryEnd := e } := by
  unfold Lane.reported suspectedLane
  split_ifs
  · exact ⟨_, _, _, _, _, _, rfl⟩
  · exact ⟨_, _, _, _, _, _, rfl⟩
  · exact ⟨x.gate, x.blackoutEnd, x.yielding, x.integrityCount, x.latched, x.recoveryEnd, rfl⟩

-- Steps 3 and 4 of R72

/-- What the owner left, with the report made to the lane and the lane out of BUSY (R72, steps 3 and 4). -/
def State.leftBusy (z : State) (l : LaneIx) (r : InFlight) (q : Nat) (o : Outcome) (good : Bool) : State :=
  (z.reportToLane l o good).leaveBusy l r q o

section

variable (s z : State) (l : LaneIx) (r : InFlight) (q : Nat) (o : Outcome) (good : Bool)

theorem takeOutcome_eq :
    s.takeOutcome l r o good = ((s.ownerTakes l r o).leftBusy l r (s.quietTimeOf r) o good).completeRetire r := rfl

@[simp] theorem duty_leftBusy (d : DutyIx) : (z.leftBusy l r q o good).duty d = z.duty d := by simp [State.leftBusy]
@[simp] theorem target_leftBusy (g : TargetIx) : (z.leftBusy l r q o good).target g = z.target g := by simp [State.leftBusy]
@[simp] theorem list_leftBusy (j : LaneIx) : (z.leftBusy l r q o good).list j = z.list j := by simp [State.leftBusy]
@[simp] theorem time_leftBusy : (z.leftBusy l r q o good).time = z.time := by simp [State.leftBusy]
@[simp] theorem port_leftBusy : (z.leftBusy l r q o good).port = z.port := by simp [State.leftBusy]
@[simp] theorem busRead_leftBusy : (z.leftBusy l r q o good).busRead = z.busRead := by simp [State.leftBusy]
@[simp] theorem pending_leftBusy : (z.leftBusy l r q o good).pending = z.pending := by simp [State.leftBusy]

theorem record_leftBusy (j : LaneIx) : (z.leftBusy l r q o good).record j = if j = l then none else z.record j := by
  simp [State.leftBusy]

theorem inc_leftBusy : (z.leftBusy l r q o good).inc = if o = .integrity then z.inc.setLane else z.inc := by
  simp only [State.leftBusy, inc_leaveBusy, State.reportToLane]
  split_ifs <;> rfl

theorem lane_leftBusy_ne {j : LaneIx} (hj : j ≠ l) : (z.leftBusy l r q o good).lane j = z.lane j := by
  rw [State.leftBusy, lane_leaveBusy_ne _ _ _ _ _ hj, lane_reportToLane, if_neg hj]

theorem lockOf_of_duty {x y : State} {d : DutyIx} (h : y.duty d = x.duty d) : y.lockOf d = x.lockOf d := by
  simp [State.lockOf, h]

theorem holdsLock_of_views {x y : State} {d : DutyIx} (h : y.duty d = x.duty d) (hlock : ∀ k, y.lock k = x.lock k) :
    y.holdsLock d = x.holdsLock d := by
  simp [State.holdsLock, lockOf_of_duty h, hlock]

/-- The lane after the outcome of a duty's transaction: QUIET with the duty's lock, or IDLE (R64). -/
theorem lane_leftBusy_duty {d : DutyIx} (hkind : r.kind = .duty d) :
    (z.leftBusy l r q o good).lane l =
      if o ≠ .abandoned ∧ 0 < q then
        { ((z.lane l).reported z.now o good).endFrame with
          activity := .quiet, quietEnd := some (satAdd z.now q)
          quietLock := if z.holdsLock d then (z.lockOf d).map fun g => (g, d) else none }
      else { ((z.lane l).reported z.now o good).endFrame with activity := .idle } := by
  have hlane : (z.reportToLane l o good).lane l = (z.lane l).reported z.now o good := by
    rw [lane_reportToLane, if_pos rfl]
  simp only [State.leftBusy, State.leaveBusy, hkind, lane_quietStart, lane_setLane, if_true, hlane]
  rw [holdsLock_of_views (x := z) (by simp) (by simp), lockOf_of_duty (x := z) (by simp)]
  simp only [State.now, time_setLane, time_setRecord, time_reportToLane]

/-- The lane after the outcome of a hold transaction (R64). -/
theorem lane_leftBusy_hold (hkind : r.kind = .holdEntry ∨ r.kind = .holdExit) :
    (z.leftBusy l r q o good).lane l = { ((z.lane l).reported z.now o good).endFrame with activity := .idle } := by
  have hlane : (z.reportToLane l o good).lane l = (z.lane l).reported z.now o good := by
    rw [lane_reportToLane, if_pos rfl]
  rcases hkind with hkind | hkind <;>
    simp only [State.leftBusy, State.leaveBusy, hkind, lane_setLane, if_true, hlane]

theorem lock_quietStart (d : DutyIx) (k : LockIx) :
    (z.quietStart l d q o).lock k =
      if o ≠ .abandoned ∧ 0 < q then z.lock k else if z.lockOf d = some k ∧ z.lock k = some d then none else z.lock k := by
  unfold State.quietStart
  by_cases hq : o ≠ .abandoned ∧ 0 < q
  · rw [if_pos hq, if_pos hq, lock_setLane]
  · rw [if_neg hq, if_neg hq, lock_releaseLockOf]
    rfl

/-- The duty's lock after the outcome: kept for the quiet time, or released (R62, R64). -/
theorem lock_leftBusy_duty {d : DutyIx} (hkind : r.kind = .duty d) (k : LockIx) :
    (z.leftBusy l r q o good).lock k =
      if o ≠ .abandoned ∧ 0 < q then z.lock k else if z.lockOf d = some k ∧ z.lock k = some d then none else z.lock k := by
  simp only [State.leftBusy, State.leaveBusy, hkind, lock_quietStart, lock_setLane, lock_setRecord, lock_reportToLane]
  rw [lockOf_of_duty (x := z) (by simp)]

theorem lock_leftBusy_hold (hkind : r.kind = .holdEntry ∨ r.kind = .holdExit) (k : LockIx) :
    (z.leftBusy l r q o good).lock k = z.lock k := by
  rcases hkind with hkind | hkind <;> simp [State.leftBusy, State.leaveBusy, hkind]

end

end Sys2Proof.Machine

/-! The outcome of a duty's transaction (R72 to R80), in the words of the statements: what the duty table makes of it, and what is
left when its lane has come out of BUSY. -/

namespace Sys2Proof.Machine

/-- The duty table has taken the outcome of the duty `d` of the lane `l`: of the rest only the incident unit has changed. -/
structure State.OwnerTook (s z : State) (d : DutyIx) (l : LaneIx) : Prop where
  beside : s.sameBeside z d l
  lane : z.lane l = s.lane l
  lock : ∀ k, z.lock k = s.lock k
  port : z.port = s.port
  defn : (z.duty d).defn = (s.duty d).defn
  retire : (z.duty d).retirePending = (s.duty d).retirePending
  list : (z.list l).filter (fun e => e ≠ d) = (s.list l).filter (fun e => e ≠ d)

/-- The record of a RUNNING duty that faults (R17). -/
def Duty.faulted (y : Duty) : Duty :=
  { y with state := .faulted, ticket := false, catchUp := false, forced := false, nextBoundary := none, inFlight := false }

section

variable {s z : State} {d : DutyIx} {y : Duty} {l : LaneIx}

/-- A new record with its ticket offer, and incidents. -/
theorem ownerTook_of_dutyChanged (hl : s.laneOf d = l) (h : s.dutyChanged z d y False) (hdefn : y.defn = (s.duty d).defn)
    (hretire : y.retirePending = (s.duty d).retirePending) (u : IncidentUnit) : s.OwnerTook (z.withInc u) d l := by
  subst hl
  obtain ⟨hbeside, ⟨hduty, hlist⟩, hlane, _, hlock, hport⟩ := h.withInc u
  refine ⟨hbeside, hlane, hlock, hport, ?_, ?_, ?_⟩
  · rw [hduty]
    exact hdefn
  · rw [hduty]
    exact hretire
  · rw [hlist]
    split <;> simp

/-- A new record of a duty that faults, and incidents (R17). -/
theorem ownerTook_faultDuty (hl : s.laneOf d = l) (hdefn : y.defn = (s.duty d).defn)
    (hretire : y.retirePending = (s.duty d).retirePending) (u : IncidentUnit) :
    s.OwnerTook (((s.setDuty d y).faultDuty d).withInc u) d l ∧
      (((s.setDuty d y).faultDuty d).withInc u).duty d = y.faulted ∧
      (((s.setDuty d y).faultDuty d).withInc u).list l = (s.list l).filter (fun e => e ≠ d) := by
  have hlane : (s.setDuty d y).laneOf d = l := (laneOf_setDuty_of_target (congrArg DutyDef.target hdefn)).trans hl
  have hlist : ∀ j, ((s.setDuty d y).faultDuty d).list j = if j = l then (s.list l).filter (fun e => e ≠ d) else s.list j := by
    intro j
    simp only [State.faultDuty, list_setDuty, list_removeTicket, hlane]
    by_cases hj : j = l <;> simp [hj]
  have hduty : ((s.setDuty d y).faultDuty d).duty d = y.faulted := by
    rw [duty_faultDuty, if_pos rfl, duty_setDuty, if_pos rfl]
    rfl
  refine ⟨⟨⟨fun e he => by simp [he], fun g => by simp, fun j hj => ⟨by simp, ?_, by simp⟩, by simp, by simp, by simp⟩, by simp,
    fun k => by simp, by simp, ?_, ?_, ?_⟩, hduty, (hlist l).trans (if_pos rfl)⟩
  · rw [list_withInc, hlist, if_neg hj]
  · rw [duty_withInc, hduty]
    exact hdefn
  · rw [duty_withInc, hduty]
    exact hretire
  · rw [list_withInc, hlist, if_pos rfl]
    simp

end

-- The end of the transaction

section

variable {s z : State} {l : LaneIx} {held : Bool} {q : Option InFlight} {d : DutyIx} {r : InFlight} {o : Outcome} {good : Bool}
  {n : Nat}

theorem completeRetire_duty (hkind : r.kind = .duty d) :
    s.completeRetire r = if (s.duty d).retirePending = true then (s.vacateDuty d).recordResult .done else s := by
  simp [State.completeRetire, hkind]

/-- Without a waiting RETIRE DUTY the outcome ends with its fourth step (R72). -/
theorem takeOutcome_of_owner (hkind : r.kind = .duty d) (hretire : (s.duty d).retirePending = false)
    (hz : (s.reframed l held q).ownerTakes l r o = z) (htook : (s.reframed l held q).OwnerTook z d l) :
    (s.reframed l held q).takeOutcome l r o good = z.leftBusy l r (s.duty d).defn.quietTime o good := by
  have hquiet : (s.reframed l held q).quietTimeOf r = (s.duty d).defn.quietTime := by simp [State.quietTimeOf, hkind]
  have hpending : (z.duty d).retirePending = false := htook.retire.trans hretire
  rw [takeOutcome_eq, hz, hquiet, completeRetire_duty hkind, duty_leftBusy, if_neg (Bool.eq_false_iff.mp hpending)]

/-- A waiting RETIRE DUTY ends with it (R15). -/
theorem takeOutcome_of_retiring (hkind : r.kind = .duty d) (hretire : (s.duty d).retirePending = true)
    (hz : (s.reframed l held q).ownerTakes l r o = z) (htook : (s.reframed l held q).OwnerTook z d l) :
    (s.reframed l held q).takeOutcome l r o good =
      ((z.leftBusy l r (s.duty d).defn.quietTime o good).vacateDuty d).recordResult .done := by
  have hquiet : (s.reframed l held q).quietTimeOf r = (s.duty d).defn.quietTime := by simp [State.quietTimeOf, hkind]
  have hpending : (z.duty d).retirePending = true := htook.retire.trans hretire
  rw [takeOutcome_eq, hz, hquiet, completeRetire_duty hkind, duty_leftBusy, if_pos hpending]

variable (htook : (s.reframed l held q).OwnerTook z d l)
include htook

theorem sameBeside_leftBusy : s.sameBeside (z.leftBusy l r n o good) d l := by
  obtain ⟨hduty, htarget, hothers, htime, hbus, hpending⟩ := htook.beside
  refine ⟨fun e he => by simpa using hduty e he, fun g => by simpa using htarget g, fun j hj => ?_, by simpa using htime,
    by simpa using hbus, by simpa using hpending⟩
  obtain ⟨hlane, hlist, hrecord⟩ := hothers j hj
  rw [lane_reframed, if_neg hj] at hlane
  rw [record_reframed, if_neg hj] at hrecord
  rw [lane_leftBusy_ne _ _ _ _ _ _ hj, list_leftBusy, record_leftBusy, if_neg hj]
  exact ⟨hlane, hlist, hrecord⟩

theorem now_of_ownerTook : z.now = s.now := by
  obtain ⟨_, _, _, htime, _⟩ := htook.beside
  exact congrArg TimeBase.epoch htime

theorem lockOf_of_ownerTook : z.lockOf d = s.lockOf d := by
  simp [State.lockOf, htook.defn]

theorem lineFreed_leftBusy (hkind : r.kind = .duty d) (ho : o ≠ .abandoned) : s.lineFreed (z.leftBusy l r n o good) l d n := by
  have hlock := htook.lock
  refine ⟨by rw [record_leftBusy, if_pos rfl], fun hn => ?_, fun hn => ?_⟩
  · rw [lane_leftBusy_duty _ _ _ _ _ _ hkind, if_pos ⟨ho, hn⟩, now_of_ownerTook htook]
    refine ⟨rfl, rfl, fun k => ?_⟩
    rw [lock_leftBusy_duty _ _ _ _ _ _ hkind, if_pos ⟨ho, hn⟩]
    exact hlock k
  · have hnot : ¬(o ≠ .abandoned ∧ 0 < n) := by omega
    rw [lane_leftBusy_duty _ _ _ _ _ _ hkind, if_neg hnot]
    refine ⟨rfl, fun k => ?_⟩
    rw [lock_leftBusy_duty _ _ _ _ _ _ hkind, if_neg hnot, lockOf_of_ownerTook htook, hlock k]
    rfl

theorem port_leftBusy_of_ownerTook : (z.leftBusy l r n o good).port = s.port := by
  rw [port_leftBusy]
  exact htook.port

/-- The lane afterwards is the reported one but for its activity, its quiet time and its pins. -/
theorem lane_leftBusy_reported (hkind : r.kind = .duty d) :
    ∃ a e k p w, (z.leftBusy l r n o good).lane l =
      { ({ s.lane l with lineHeld := held } : Lane).reported s.now o good with
        activity := a, quietEnd := e, quietLock := k, pins := p, stopWaiting := w } := by
  have hlane : z.lane l = { s.lane l with lineHeld := held } := by rw [htook.lane, lane_reframed, if_pos rfl]
  obtain ⟨p, w, hframe⟩ := Lane.endFrame_eq (({ s.lane l with lineHeld := held } : Lane).reported s.now o good)
  rw [lane_leftBusy_duty _ _ _ _ _ _ hkind, hlane, now_of_ownerTook htook, hframe]
  split
  · exact ⟨_, _, _, p, w, rfl⟩
  · exact ⟨.idle, _, _, p, w, rfl⟩

theorem sameConfig_leftBusy (hkind : r.kind = .duty d) : (s.lane l).sameConfig ((z.leftBusy l r n o good).lane l) := by
  obtain ⟨a, e, k, p, w, hlane⟩ := lane_leftBusy_reported (n := n) (o := o) (good := good) htook hkind
  obtain ⟨g, b, y, c, m, v, hreported⟩ := Lane.reported_frame { s.lane l with lineHeld := held } s.now o good
  rw [hlane, hreported]
  exact ⟨rfl, rfl, rfl, rfl, rfl, rfl, rfl⟩

/-- An outcome other than INTEGRITY keeps the gate, and a good check byte clears the count (R75, R125). -/
theorem gate_leftBusy_of_quiet (hkind : r.kind = .duty d) (ho : o ≠ .integrity) :
    ((z.leftBusy l r n o good).lane l).gate = (s.lane l).gate ∧
      ((z.leftBusy l r n o good).lane l).integrityCount = if good = true then 0 else (s.lane l).integrityCount := by
  obtain ⟨a, e, k, p, w, hlane⟩ := lane_leftBusy_reported (n := n) (o := o) (good := good) htook hkind
  rw [hlane, Lane.reported_of_quiet _ _ ho]
  exact ⟨rfl, rfl⟩

omit htook in
/-- What an INTEGRITY report leaves in a lane (R126, R127). -/
theorem suspectedLane_fields (x : Lane) (now : Epoch) :
    (suspectedLane x now).gate = .suspect ∧ (suspectedLane x now).integrityCount = x.integrityCount + 1 ∧
      (suspectedLane x now).blackoutEnd = none ∧ (suspectedLane x now).yielding = false ∧
      (x.integrityCount = 2 → (suspectedLane x now).latched = true ∧ (suspectedLane x now).recoveryEnd = none) ∧
      (x.integrityCount < 2 → (suspectedLane x now).latched = x.latched ∧
        (suspectedLane x now).recoveryEnd = if x.autoResume = true then some (satAdd now x.recoveryTime) else none) := by
  refine ⟨rfl, rfl, rfl, rfl, fun h => ?_, fun h => ?_⟩
  · simp [suspectedLane, Config.integrityLatch, h]
  · have hlow : ¬3 ≤ x.integrityCount + 1 := by omega
    simp [suspectedLane, Config.integrityLatch, hlow]

/-- An INTEGRITY outcome suspends the lane (R126). -/
theorem laneSuspended_leftBusy (hkind : r.kind = .duty d) : s.laneSuspended (z.leftBusy l r n .integrity good) l := by
  obtain ⟨a, e, k, p, w, hlane⟩ := lane_leftBusy_reported (n := n) (o := .integrity) (good := good) htook hkind
  obtain ⟨hgate, hcount, hblackout, hyield, hthird, hbefore⟩ := suspectedLane_fields { s.lane l with lineHeld := held } s.now
  have hconfig := sameConfig_leftBusy (n := n) (o := .integrity) (good := good) htook hkind
  rw [hlane, Lane.reported_integrity] at hconfig
  unfold State.laneSuspended
  rw [hlane, Lane.reported_integrity]
  exact ⟨hgate, hcount, hblackout, hyield, hconfig, hthird, hbefore⟩

end

end Sys2Proof.Machine

/-! Each row that ends a transaction, and the outcome that it gives (R70, R71, R73, R74, R133 to R136). -/

namespace Sys2Proof.Machine

theorem clockHeld_iff (x : Lane) : x.clockHeld = true ↔ x.configured = true ∧ x.mode = .addressed ∧ x.lineHeld = true := by
  simp [Lane.clockHeld, and_assoc]

theorem movingRecord_of_free {s : State} {l : LaneIx} (hclock : (s.lane l).clockHeld = false) : s.movingRecord l = s.record l := by
  simp [State.movingRecord, hclock]

theorem mayReadStatus_of {r : InFlight} (h : r.phase = .request ∨ (r.phase = .wait ∧ r.tickSinceRead = true)) :
    mayReadStatus r = true := by
  rcases h with h | ⟨h, htick⟩
  · simp [mayReadStatus, h]
  · simp [mayReadStatus, h, htick]

section

variable {s : State} {l : LaneIx} {r : InFlight}

/-- A row that takes the outcome of the lane's transaction leaves it taken (R72). -/
theorem leaves_of_endWith {c : Instr} {z : State} {o : Outcome} {good : Bool}
    (hexec : exec c s = .next ((z.takeOutcome l r o good).looksAfter s [l])) : leaves c s (z.takeOutcome l r o good) [l] :=
  ⟨hexec, looksAfter_looked _ _ _ (List.nodup_singleton l)⟩

-- Status reads and data bytes

theorem exec_statusRead_of (v : Byte) (hrecord : s.record l = some r) (hclock : (s.lane l).clockHeld = false)
    (hread : mayReadStatus r = true) : exec (.statusRead l v) s = .next (s.readStatus l r v) := by
  show execStatusRead l v s = _
  rw [execStatusRead, movingRecord_of_free hclock, hrecord, Option.filter_some, if_pos hread]

/-- DONE, BUSY or ERROR: the response follows (R70). -/
theorem readStatus_of_answer {v : Byte} (h : v = 0x61 ∨ v = 0x62 ∨ v = 0x63) :
    s.readStatus l r v = s.setRecord l (some { r with status := some v, phase := .response }) := by
  have hpending : v ≠ 0x00 := by rcases h with h | h | h <;> simp [h]
  rw [State.readStatus, if_neg hpending, if_pos h]

/-- PENDING, in time (R70, R71). -/
theorem readStatus_of_pending (h : r.phase = .wait ∨ r.deadlinePassed = false) :
    s.readStatus l r 0x00 = s.setRecord l (some { r with status := some 0x00, phase := .wait, tickSinceRead := false }) := by
  have hkept : ¬((decide (r.phase = .request) && r.deadlinePassed) = true) := by
    rcases h with h | h <;> simp [h]
  rw [State.readStatus, if_pos rfl, State.readPending, if_neg hkept]

/-- A first PENDING after the deadline (R71). -/
theorem readStatus_of_late (hphase : r.phase = .request) (hlate : r.deadlinePassed = true) :
    s.readStatus l r 0x00 =
      s.endWith l { r with status := some 0x00, phase := .wait, tickSinceRead := false } .timeout false := by
  rw [State.readStatus, if_pos rfl, State.readPending]
  simp [hphase, hlate]

/-- No target on a SELECT lane (R133). -/
theorem readStatus_of_absent (hmode : (s.lane l).mode = .select) (hphase : r.phase = .request) :
    s.readStatus l r 0xFF = s.endWith l r .noAnswer false := by
  rw [State.readStatus, if_neg (by decide), if_neg (by decide), if_pos ⟨rfl, hmode, hphase⟩]

/-- An undefined status (R70, R73). -/
theorem readStatus_of_undefined {v : Byte} (hpending : v ≠ 0x00) (hdone : v ≠ 0x61) (hbusy : v ≠ 0x62) (herror : v ≠ 0x63)
    (habsent : v ≠ 0xFF ∨ (s.lane l).mode = .addressed ∨ r.phase = .wait) :
    s.readStatus l r v = s.endWith l { r with status := some v } .integrity false := by
  have hnone : ¬(v = 0xFF ∧ (s.lane l).mode = .select ∧ r.phase = .request) := by
    rintro ⟨hv, hmode, hphase⟩
    rcases habsent with h | h | h
    · exact h hv
    · rw [hmode] at h
      cases h
    · rw [hphase] at h
      cases h
  rw [State.readStatus, if_neg hpending, if_neg (by rintro (h | h | h) <;> contradiction), if_neg hnone]

theorem exec_dataByte_of (v : Byte) (hrecord : s.record l = some r) (hclock : (s.lane l).clockHeld = false)
    (hawaits : s.awaitsData r = true) :
    exec (.dataByte l v) s = .next (s.setRecord l (some { r with data := r.data ++ [v] })) := by
  show execDataByte l v s = _
  rw [execDataByte, movingRecord_of_free hclock, hrecord, Option.filter_some, if_pos hawaits]

theorem awaitsData_iff (s : State) (r : InFlight) :
    s.awaitsData r = true ↔ r.phase = .response ∧ r.data.length < s.expectedData r := by
  simp [State.awaitsData]

theorem awaitsCheck_iff (s : State) (r : InFlight) :
    s.awaitsCheck r = true ↔ r.phase = .response ∧ s.expectedData r ≤ r.data.length := by
  simp [State.awaitsCheck]

theorem expectedData_of_done {d : DutyIx} (hkind : r.kind = .duty d) (hstatus : r.status = some 0x61) :
    s.expectedData r = (s.duty d).defn.readbackLength := by
  simp [State.expectedData, hkind, hstatus]

theorem expectedData_of_hold (hkind : r.kind = .holdEntry ∨ r.kind = .holdExit) : s.expectedData r = 0 := by
  rcases hkind with hkind | hkind <;> simp [State.expectedData, hkind]

theorem expectedData_of_status (hstatus : r.status ≠ some 0x61) : s.expectedData r = 0 := by
  unfold State.expectedData
  split
  · exact if_neg hstatus
  · rfl
  · rfl

/-- Settles O31: the rows of a frame that goes on. -/
theorem statusAndDataFollowTheFrame : Obligations.StatusAndDataFollowTheFrame := by
  refine ⟨fun s l r v hrecord hclock hphase => ⟨fun hv => ?_, fun hv hintime => ?_⟩,
    fun s l r d v hrecord hclock hphase hkind hstatus hlength => ?_,
    fun s r => ⟨fun d => expectedData_of_done, fun h => ?_⟩⟩
  · rw [exec_statusRead_of v hrecord hclock (mayReadStatus_of hphase), readStatus_of_answer hv]
  · subst hv
    rw [exec_statusRead_of _ hrecord hclock (mayReadStatus_of hphase), readStatus_of_pending hintime]
  · refine exec_dataByte_of v hrecord hclock ((awaitsData_iff s r).mpr ⟨hphase, ?_⟩)
    rwa [expectedData_of_done hkind hstatus]
  · rcases h with h | h | h
    · exact expectedData_of_hold (.inl h)
    · exact expectedData_of_hold (.inr h)
    · exact expectedData_of_status h

-- The rows that end a transaction

theorem leaves_checkByte (v : Byte) (hrecord : s.record l = some r) (hclock : (s.lane l).clockHeld = false)
    (hphase : r.phase = .response) (hdata : s.expectedData r ≤ r.data.length) :
    leaves (.checkByte l v) s (s.takeOutcome l r (s.classify r v).1 (s.classify r v).2) [l] := by
  refine leaves_of_endWith ?_
  show execCheckByte l v s = _
  rw [execCheckByte, movingRecord_of_free hclock, hrecord, Option.filter_some,
    if_pos ((awaitsCheck_iff s r).mpr ⟨hphase, hdata⟩)]
  rfl

theorem classify_of_done {v : Byte} (hv : v = checkOf (r.status.getD 0 :: r.data)) (hstatus : r.status = some 0x61) :
    s.classify r v = (s.classifyDone r, true) := by
  rw [State.classify, responseCheck, if_pos hv, if_pos hstatus]

theorem classify_of_busy {v : Byte} (hv : v = checkOf (r.status.getD 0 :: r.data)) (hstatus : r.status = some 0x62) :
    s.classify r v = (.busy, true) := by
  have hdone : r.status ≠ some 0x61 := by simp [hstatus]
  rw [State.classify, responseCheck, if_pos hv, if_neg hdone, if_pos hstatus]

theorem classify_of_rejected {v : Byte} (hv : v = checkOf (r.status.getD 0 :: r.data)) (hdone : r.status ≠ some 0x61)
    (hbusy : r.status ≠ some 0x62) : s.classify r v = (.rejected, true) := by
  rw [State.classify, responseCheck, if_pos hv, if_neg hdone, if_neg hbusy]

theorem classify_of_bad {v : Byte} (hv : v ≠ checkOf (r.status.getD 0 :: r.data)) : s.classify r v = (.integrity, false) := by
  rw [State.classify, responseCheck, if_neg hv]

/-- DONE by its data (R2, R74). -/
theorem classifyDone_duty {d : DutyIx} (hkind : r.kind = .duty d) :
    ((s.duty d).defn.compare = false ∨
        matchesUnder ((s.duty d).defn.expected.getD []) ((s.duty d).defn.mask.getD []) r.data →
      s.classifyDone r = .credited) ∧
    ((s.duty d).defn.compare = true →
        ¬matchesUnder ((s.duty d).defn.expected.getD []) ((s.duty d).defn.mask.getD []) r.data →
      s.classifyDone r = .deviation) := by
  refine ⟨fun h => ?_, fun hcompare h => ?_⟩ <;> simp only [State.classifyDone, hkind] <;> rw [← equalUnderMask_iff] at h
  · rcases h with h | h <;> simp [h]
  · simp [hcompare, h]

theorem classifyDone_hold (hkind : r.kind = .holdEntry ∨ r.kind = .holdExit) : s.classifyDone r = .credited := by
  rcases hkind with hkind | hkind <;> simp only [State.classifyDone, hkind]

theorem leaves_statusRead {v : Byte} {q : InFlight} {o : Outcome} (hrecord : s.record l = some r)
    (hclock : (s.lane l).clockHeld = false) (hread : mayReadStatus r = true)
    (hstatus : s.readStatus l r v = s.endWith l q o false) :
    leaves (.statusRead l v) s ((s.reframed l (s.lane l).lineHeld (some q)).takeOutcome l q o false) [l] := by
  refine leaves_of_endWith ?_
  rw [exec_statusRead_of v hrecord hclock hread, hstatus, reframed_record]
  rfl

theorem leaves_addressNotAcknowledged (hrecord : s.record l = some r) (hclock : (s.lane l).clockHeld = false)
    (hmode : (s.lane l).mode = .addressed) (hread : mayReadStatus r = true) :
    leaves (.addressNotAcknowledged l) s (s.takeOutcome l r .noAnswer false) [l] := by
  refine leaves_of_endWith ?_
  show execAddressNotAcknowledged l s = _
  rw [execAddressNotAcknowledged, movingRecord_of_free hclock, hrecord, Option.filter_some,
    if_pos (by simp [Lane.mayMissAddress, hmode, hread])]
  rfl

theorem leaves_requestByteRefused (hrecord : s.record l = some r) (hclock : (s.lane l).clockHeld = false)
    (hmode : (s.lane l).mode = .addressed) (hphase : r.phase = .request) :
    leaves (.requestByteRefused l) s (s.takeOutcome l r .rejected false) [l] := by
  refine leaves_of_endWith ?_
  show execRequestByteRefused l s = _
  rw [execRequestByteRefused, movingRecord_of_free hclock, hrecord, Option.filter_some,
    if_pos (by simp [Lane.mayRefuseByte, hmode, hphase])]
  rfl

theorem responseDue_of (hrecord : s.record l = some r) (hreached : r.deadline.toNat ≤ s.now.toNat) :
    s.responseDue l = some r := by
  simp [State.responseDue, hrecord, reached, hreached]

theorem deadlineAct_timeout {x : Lane} (h : r.phase = .wait ∨ x.clockHeld = true) : deadlineAct x r = .timeout := by
  unfold deadlineAct
  rcases h with h | h
  · rw [h]
  · cases r.phase <;> simp [h]

theorem leaves_responseDeadline (hrecord : s.record l = some r) (hreached : r.deadline.toNat ≤ s.now.toNat)
    (hends : r.phase = .wait ∨ (s.lane l).clockHeld = true) :
    leaves (.responseDeadline l) s (s.takeOutcome l r .timeout false) [l] := by
  refine leaves_of_endWith ?_
  show execResponseDeadline l s = _
  rw [execResponseDeadline, responseDue_of hrecord hreached]
  simp only [deadlineAct_timeout hends]
  rfl

theorem leaves_clockLineHold (hrecord : s.record l = some r) (hconfigured : (s.lane l).configured = true)
    (hmode : (s.lane l).mode = .addressed) (hphase : r.phase ≠ .wait) (hreached : r.deadline.toNat ≤ s.now.toNat) :
    leaves (.clockLineHold l) s ((s.reframed l true (s.record l)).takeOutcome l r .timeout false) [l] := by
  have hheld : ((s.setLane l { s.lane l with lineHeld := true }).lane l).clockHeld = true := by
    simp [clockHeld_iff, hconfigured, hmode]
  have hends : (s.setLane l { s.lane l with lineHeld := true }).holdEnds l = some r := by
    rw [State.holdEnds, record_setLane, hrecord, Option.filter_some, if_pos]
    exact Bool.and_eq_true_iff.mpr ⟨decide_eq_true hphase, decide_eq_true hreached⟩
  refine leaves_of_endWith ?_
  show execClockLineHold l s = _
  simp only [execClockLineHold]
  rw [if_pos hheld, hends, reframed_held]
  rfl

end

end Sys2Proof.Machine

/-! The outcomes of duties (R13, R33, R34, R76 to R80): what the duty table makes of each, and the statements about the rows that
give them. -/

namespace Sys2Proof.Machine

-- What the duty table makes of an outcome

/-- The incident unit after a failure of this kind, a fault of the duty apart (R79, R82). -/
def State.incAfterFailure (s : State) (l : LaneIx) (r : InFlight) (why : Reason) : IncidentUnit :=
  if why = .integrity then s.inc.pass (integrityIncident s l r) else s.inc

section

variable {s : State} {d : DutyIx} {y : Duty} (l : LaneIx) (r : InFlight)

theorem faultDuty_withInc (z : State) (u : IncidentUnit) (d : DutyIx) :
    (z.withInc u).faultDuty d = (z.faultDuty d).withInc u := rfl

/-- A new record of a duty that gets no ticket. -/
theorem dutyChanged_setDuty (htarget : y.defn.target = (s.duty d).defn.target) (hnone : y.getsTicket = false) :
    s.dutyChanged (s.setDuty d y) d y False := by
  have hchanged := dutyChanged_offerTicket htarget
  rwa [offerTicket_of_not (by simpa using hnone)] at hchanged

theorem getsTicket_of_not_running {x : Duty} (h : x.state ≠ .running) : x.getsTicket = false := by
  rw [Bool.eq_false_iff, ne_eq, getsTicket_iff]
  exact fun hx => h hx.1

theorem creditDuty_changed : s.dutyChanged (s.creditDuty r d) d (creditedDuty (s.duty d) r.forcedMark .credited) False :=
  dutyChanged_offerTicket (by rfl)

theorem deviateDuty_kept (h : (s.duty d).state ≠ .running ∨ (s.duty d).defn.haltOnDeviation = false) :
    ∃ z, s.deviateDuty l r d = z.withInc (s.inc.pass (deviationIncident s l r d)) ∧
      s.dutyChanged z d (creditedDuty (s.duty d) r.forcedMark .deviation) False := by
  have hkept : ¬((decide ((s.duty d).state = .running) && (s.duty d).defn.haltOnDeviation) = true) := by
    rcases h with h | h <;> simp [h]
  refine ⟨_, ?_, dutyChanged_offerTicket (by rfl)⟩
  simp only [State.deviateDuty, if_neg hkept]
  exact offerTicket_withInc _ _ d

theorem faultDuty_offerTicket (z : State) (d : DutyIx) (u : IncidentUnit) :
    ((z.withInc u).offerTicket d).faultDuty d = (z.faultDuty d).withInc u := by
  rw [offerTicket_withInc, faultDuty_withInc]
  congr 1
  have hlane : (z.offerTicket d).laneOf d = z.laneOf d := by
    simp [State.laneOf, State.targetOf, duty_offerTicket, Duty.offered]
  refine State.ext_views (fun e => ?_) (fun g => by simp) (fun j => by simp) (fun j => ?_) (fun k => by simp) (fun j => by simp)
    (by simp) (by simp) (by simp) (by simp) (by simp)
  · by_cases he : e = d
    · simp [he, duty_offerTicket, Duty.offered]
    · simp [he, duty_offerTicket]
  · simp only [State.faultDuty, list_setDuty, list_removeTicket, hlane, list_offerTicket]
    by_cases hj : j = z.laneOf d
    · by_cases hget : (z.duty d).getsTicket = true <;> simp [hj, hget]
    · simp [hj]

theorem deviateDuty_faults (hrun : (s.duty d).state = .running) (hhalt : (s.duty d).defn.haltOnDeviation = true) :
    s.deviateDuty l r d =
      ((s.setDuty d (creditedDuty (s.duty d) r.forcedMark .deviation)).faultDuty d).withInc
        (s.inc.pass (deviationIncident s l r d)) := by
  have hfaults : (decide ((s.duty d).state = .running) && (s.duty d).defn.haltOnDeviation) = true := by simp [hrun, hhalt]
  simp only [State.deviateDuty, if_pos hfaults]
  exact faultDuty_offerTicket _ d _

theorem failDuty_eq (why : Reason) :
    s.failDuty l r d why =
      let z := (s.setDuty d ((s.duty d).afterFailure why.toLast)).withInc (s.incAfterFailure l r why)
      if (s.duty d).attempts + 1 ≤ (s.duty d).defn.retryLimit then z.offerTicket d
      else if (s.duty d).state = .running then (z.faultDuty d).passIncident (dutyFaultedIncident s l r d why)
      else z := by
  have hz : (if why = .integrity then
      (s.setDuty d ((s.duty d).afterFailure why.toLast)).passIncident (integrityIncident s l r)
      else s.setDuty d ((s.duty d).afterFailure why.toLast)) =
      (s.setDuty d ((s.duty d).afterFailure why.toLast)).withInc (s.incAfterFailure l r why) := by
    unfold State.incAfterFailure
    split <;> rfl
  show (let s1 := s.setDuty d ((s.duty d).afterFailure why.toLast)
    let s2 := if why = .integrity then s1.passIncident (integrityIncident s l r) else s1
    if (s2.duty d).attempts ≤ (s2.duty d).defn.retryLimit then s2.offerTicket d
    else if (s2.duty d).state = .running then (s2.faultDuty d).passIncident (dutyFaultedIncident s l r d why)
    else s2) = _
  dsimp only
  rw [hz, duty_withInc, duty_setDuty, if_pos rfl]
  rfl

/-- A failure with retries left, or of a duty that does not run (R13, R79). -/
theorem failDuty_kept (why : Reason)
    (h : (s.duty d).attempts < (s.duty d).defn.retryLimit ∨ (s.duty d).state ≠ .running) :
    ∃ z, s.failDuty l r d why = z.withInc (s.incAfterFailure l r why) ∧
      s.dutyChanged z d ((s.duty d).afterFailure why.toLast) False := by
  rw [failDuty_eq]
  dsimp only
  by_cases hleft : (s.duty d).attempts + 1 ≤ (s.duty d).defn.retryLimit
  · rw [if_pos hleft, offerTicket_withInc]
    exact ⟨_, rfl, dutyChanged_offerTicket (by rfl)⟩
  · have hrun : (s.duty d).state ≠ .running := h.resolve_left (by omega)
    rw [if_neg hleft, if_neg hrun]
    exact ⟨_, rfl, dutyChanged_setDuty (by rfl) (getsTicket_of_not_running hrun)⟩

/-- A failure that spends the retries of a RUNNING duty (R17, R80). -/
theorem failDuty_faults (why : Reason) (hspent : (s.duty d).defn.retryLimit ≤ (s.duty d).attempts)
    (hrun : (s.duty d).state = .running) :
    s.failDuty l r d why =
      ((s.setDuty d ((s.duty d).afterFailure why.toLast)).faultDuty d).withInc
        ((s.incAfterFailure l r why).pass (dutyFaultedIncident s l r d why)) := by
  rw [failDuty_eq]
  dsimp only
  rw [if_neg (by omega), if_pos hrun, faultDuty_withInc]
  rfl

theorem busyDuty_kept (h : (s.duty d).busyCount < (s.duty d).defn.busyLimit) :
    s.dutyChanged (s.busyDuty l r d) d
      { s.duty d with
        busyCount := (s.duty d).busyCount + 1
        backoffUntil := some (satAdd s.now (s.targetOf d).defn.busyBackoff)
        lastOutcome := .busy, inFlight := false } False ∧ (s.busyDuty l r d).inc = s.inc := by
  simp only [State.busyDuty]
  rw [if_pos (by omega)]
  exact ⟨dutyChanged_offerTicket (by rfl), by simp⟩

theorem busyDuty_spent (h : (s.duty d).defn.busyLimit ≤ (s.duty d).busyCount) :
    s.busyDuty l r d = s.failDuty l r d .busyLimit := by
  simp only [State.busyDuty]
  rw [if_neg (by omega)]

theorem abandonDuty_changed :
    s.dutyChanged (s.abandonDuty d) d { s.duty d with lastOutcome := .abandoned, inFlight := false } False :=
  dutyChanged_offerTicket (by rfl)

/-- The accounting of a credited outcome, with Owed in its range (R33, R34). -/
theorem creditedDuty_eq {x : Duty} (h : x.owedSound) (forcedMark : Bool) (last : LastOutcome) :
    creditedDuty x forcedMark last = x.afterCredit forcedMark x.owedAfterCredit last := by
  obtain ⟨⟨hlow, _⟩, _⟩ := h
  have howed : creditedOwed x = x.owedAfterCredit := by
    unfold creditedOwed Duty.owedAfterCredit
    split_ifs <;> omega
  simp only [creditedDuty, Duty.afterCredit, howed]
  congr 1
  · cases forcedMark <;> simp
  · by_cases hover : x.owedAfterCredit ≤ x.defn.deferLimit
    · simp [hover, Int.not_lt.mpr hover]
    · simp [hover, Int.not_le.mp hover]

end

end Sys2Proof.Machine

/-! The statements about the outcomes of duties: credit, deviation, BUSY, and the failures by their retries. -/

namespace Sys2Proof.Machine

-- From the owner to the end of the transaction

theorem withInc_of_inc {z : State} {u : IncidentUnit} (h : z.inc = u) : z.withInc u = z := h ▸ rfl

section

variable {s z : State} {l : LaneIx} {held : Bool} {q : Option InFlight} {d : DutyIx} {r : InFlight} {o : Outcome} {good : Bool}
  {y : Duty} {u : IncidentUnit}

theorem laneOf_reframed (s : State) (l : LaneIx) (held : Bool) (q : Option InFlight) (d : DutyIx) :
    (s.reframed l held q).laneOf d = s.laneOf d := rfl

section

variable (hl : s.laneOf d = l) (hkind : r.kind = .duty d) (hretire : (s.duty d).retirePending = false)
  (hdefn : y.defn = (s.duty d).defn) (hkept : y.retirePending = (s.duty d).retirePending)
include hl hkind hretire hdefn hkept

/-- An outcome that leaves the duty its state (R72, R75). -/
theorem takeOutcome_of_changed (hz : (s.reframed l held q).ownerTakes l r o = z.withInc u)
    (h : (s.reframed l held q).dutyChanged z d y False) (ho : o ≠ .integrity) (ho' : o ≠ .abandoned) :
    s.outcomeTaken ((s.reframed l held q).takeOutcome l r o good) l d y (s.lane l).gate
        (if good = true then 0 else (s.lane l).integrityCount) ∧
      ((s.reframed l held q).takeOutcome l r o good).inc = u := by
  have htook := ownerTook_of_dutyChanged (l := l) (by exact hl) h hdefn hkept u
  obtain ⟨_, ⟨hduty, hlist⟩, _⟩ := h
  rw [laneOf_reframed, hl] at hlist
  obtain ⟨hgate, hcount⟩ := gate_leftBusy_of_quiet (n := (s.duty d).defn.quietTime) (good := good) htook hkind ho
  rw [takeOutcome_of_owner hkind hretire hz htook]
  refine ⟨⟨sameBeside_leftBusy htook, ⟨?_, ?_⟩, lineFreed_leftBusy htook hkind ho', hgate, hcount,
    sameConfig_leftBusy htook hkind, port_leftBusy_of_ownerTook htook⟩, ?_⟩
  · rw [duty_leftBusy, duty_withInc, hduty]
  · rw [list_leftBusy, list_withInc, hlist, list_reframed]
  · rw [inc_leftBusy, if_neg ho, inc_withInc]

/-- An INTEGRITY outcome that leaves the duty its state (R82, R126). -/
theorem takeOutcome_of_suspended (hz : (s.reframed l held q).ownerTakes l r .integrity = z.withInc u)
    (h : (s.reframed l held q).dutyChanged z d y False) :
    s.outcomeTaken ((s.reframed l held q).takeOutcome l r .integrity good) l d y .suspect ((s.lane l).integrityCount + 1) ∧
      ((s.reframed l held q).takeOutcome l r .integrity good).inc = u.setLane ∧
      s.laneSuspended ((s.reframed l held q).takeOutcome l r .integrity good) l := by
  have htook := ownerTook_of_dutyChanged (l := l) (by exact hl) h hdefn hkept u
  obtain ⟨_, ⟨hduty, hlist⟩, _⟩ := h
  rw [laneOf_reframed, hl] at hlist
  rw [takeOutcome_of_owner hkind hretire hz htook]
  have hsuspended := laneSuspended_leftBusy (n := (s.duty d).defn.quietTime) (good := good) htook hkind
  obtain ⟨hgate, hcount, _, _, hconfig, _⟩ := id hsuspended
  refine ⟨⟨sameBeside_leftBusy htook, ⟨?_, ?_⟩, lineFreed_leftBusy htook hkind (by simp), hgate, hcount, hconfig,
    port_leftBusy_of_ownerTook htook⟩, ?_, hsuspended⟩
  · rw [duty_leftBusy, duty_withInc, hduty]
  · rw [list_leftBusy, list_withInc, hlist, list_reframed]
  · rw [inc_leftBusy, if_pos rfl, inc_withInc]

/-- An outcome that faults the duty (R17, R80). -/
theorem takeOutcome_of_faulted
    (hz : (s.reframed l held q).ownerTakes l r o = (((s.reframed l held q).setDuty d y).faultDuty d).withInc u)
    (ho' : o ≠ .abandoned) :
    (s.sameBeside ((s.reframed l held q).takeOutcome l r o good) d l ∧
      ((s.reframed l held q).takeOutcome l r o good).duty d = y.faulted ∧
      ((s.reframed l held q).takeOutcome l r o good).list l = (s.list l).filter (fun e => e ≠ d) ∧
      s.lineFreed ((s.reframed l held q).takeOutcome l r o good) l d (s.duty d).defn.quietTime ∧
      (s.lane l).sameConfig (((s.reframed l held q).takeOutcome l r o good).lane l) ∧
      ((s.reframed l held q).takeOutcome l r o good).port = s.port) ∧
    (o ≠ .integrity →
      (((s.reframed l held q).takeOutcome l r o good).lane l).gate = (s.lane l).gate ∧
      (((s.reframed l held q).takeOutcome l r o good).lane l).integrityCount =
        (if good = true then 0 else (s.lane l).integrityCount) ∧
      ((s.reframed l held q).takeOutcome l r o good).inc = u) ∧
    (o = .integrity →
      s.laneSuspended ((s.reframed l held q).takeOutcome l r o good) l ∧
      ((s.reframed l held q).takeOutcome l r o good).inc = u.setLane) := by
  obtain ⟨htook, hduty, hlist⟩ := ownerTook_faultDuty (s := s.reframed l held q) (l := l) (by exact hl) hdefn hkept u
  rw [takeOutcome_of_owner hkind hretire hz htook]
  refine ⟨⟨sameBeside_leftBusy htook, ?_, ?_, lineFreed_leftBusy htook hkind ho', sameConfig_leftBusy htook hkind,
    port_leftBusy_of_ownerTook htook⟩, fun ho => ?_, fun ho => ?_⟩
  · rw [duty_leftBusy, hduty]
  · rw [list_leftBusy, hlist, list_reframed]
  · obtain ⟨hgate, hcount⟩ := gate_leftBusy_of_quiet (n := (s.duty d).defn.quietTime) (good := good) htook hkind ho
    exact ⟨hgate, hcount, by rw [inc_leftBusy, if_neg ho, inc_withInc]⟩
  · subst ho
    exact ⟨laneSuspended_leftBusy htook hkind, by rw [inc_leftBusy, if_pos rfl, inc_withInc]⟩

end

theorem not_running_of_stopped {st : DutyState} (h : st = .stopped) : st ≠ .running := by
  simp [h]

theorem ownerTakes_duty (hkind : r.kind = .duty d) : s.ownerTakes l r o = s.dutyOutcome l r d o := by
  simp only [State.ownerTakes, hkind]

/-- A failure other than INTEGRITY (R13, R79, R80). -/
theorem dutyFails_takeOutcome {why : Reason} (hl : s.laneOf d = l) (hkind : r.kind = .duty d)
    (hretire : (s.duty d).retirePending = false)
    (hfails : (s.reframed l held q).dutyOutcome l r d o = (s.reframed l held q).failDuty l r d why) (hwhy : why ≠ .integrity)
    (ho : o ≠ .integrity) (ho' : o ≠ .abandoned) :
    s.dutyFails ((s.reframed l held q).takeOutcome l r o good) l d r why why.toLast
      (if good = true then 0 else (s.lane l).integrityCount) := by
  have howner := (ownerTakes_duty (s := s.reframed l held q) (l := l) (o := o) hkind).trans hfails
  have hinc : (s.reframed l held q).incAfterFailure l r why = s.inc := if_neg hwhy
  refine ⟨fun h => ?_, fun hspent hrun => ?_⟩
  · obtain ⟨z, hz, hchanged⟩ := failDuty_kept (s := s.reframed l held q) l r why (h.imp_right not_running_of_stopped)
    rw [hinc] at hz
    exact takeOutcome_of_changed hl hkind hretire (by rfl) (by rfl) (howner.trans hz) hchanged ho ho'
  · have hz := failDuty_faults (s := s.reframed l held q) l r why hspent hrun
    rw [hinc] at hz
    obtain ⟨⟨hbeside, hduty, hlist, hfreed, hconfig, hport⟩, hquiet, _⟩ :=
      takeOutcome_of_faulted (good := good) hl hkind hretire (by rfl) (by rfl) (howner.trans hz) ho'
    obtain ⟨hgate, hcount, hunit⟩ := hquiet ho
    exact ⟨hbeside, hduty, hlist, hunit, hfreed, hgate, hcount, hconfig, hport⟩

theorem incAfterFailure_integrity (hkind : r.kind = .duty d) :
    s.incAfterFailure l r .integrity = s.inc.pass (s.integrityOf l d r) := by
  simp [State.incAfterFailure, integrityIncident, State.integrityOf, hkind]

/-- An INTEGRITY outcome (R13, R80, R82). -/
theorem integrity_takeOutcome (hl : s.laneOf d = l) (hkind : r.kind = .duty d) (hretire : (s.duty d).retirePending = false) :
    ((s.duty d).attempts < (s.duty d).defn.retryLimit ∨ (s.duty d).state = .stopped →
      s.suspendedBy ((s.reframed l held q).takeOutcome l r .integrity good) l d r) ∧
    ((s.duty d).defn.retryLimit ≤ (s.duty d).attempts → (s.duty d).state = .running →
      s.suspendedAndFaulted ((s.reframed l held q).takeOutcome l r .integrity good) l d r) := by
  have howner := ownerTakes_duty (s := s.reframed l held q) (l := l) (o := .integrity) hkind
  have hinc : (s.reframed l held q).incAfterFailure l r .integrity = s.inc.pass (s.integrityOf l d r) :=
    incAfterFailure_integrity hkind
  refine ⟨fun h => ?_, fun hspent hrun => ?_⟩
  · obtain ⟨z, hz, hchanged⟩ := failDuty_kept (s := s.reframed l held q) l r .integrity (h.imp_right not_running_of_stopped)
    rw [hinc] at hz
    exact takeOutcome_of_suspended hl hkind hretire (by rfl) (by rfl) (howner.trans hz) hchanged
  · have hz := failDuty_faults (s := s.reframed l held q) l r .integrity hspent hrun
    rw [hinc] at hz
    obtain ⟨⟨hbeside, hduty, hlist, hfreed, _, hport⟩, _, hsuspends⟩ :=
      takeOutcome_of_faulted (good := good) hl hkind hretire (by rfl) (by rfl) (howner.trans hz) (by simp)
    obtain ⟨hsuspended, hunit⟩ := hsuspends rfl
    exact ⟨hbeside, hduty, hlist, hunit, hfreed, hsuspended, hport⟩

end

/-- The outcome of a record as it stands, in the same words as that of a record that has taken a last change. -/
theorem leaves_reframed {c : Instr} {s : State} {l : LaneIx} {r : InFlight} {o : Outcome} {good : Bool}
    (h : leaves c s (s.takeOutcome l r o good) [l]) :
    leaves c s ((s.reframed l (s.lane l).lineHeld (s.record l)).takeOutcome l r o good) [l] := by
  rwa [reframed_self]

-- Responses with a good check byte

/-- Settles O32: DONE with no compare, or with data that match. -/
theorem creditedOutcome : Obligations.CreditedOutcome := by
  rintro s l r d ⟨hrecord, hkind, hl, hretire⟩ hclock hphase hstatus hlength howed hmatch
  have hdata : s.expectedData r ≤ r.data.length := by rwa [expectedData_of_done hkind hstatus]
  have hclass : s.classify r (checkOf (0x61 :: r.data)) = (.credited, true) := by
    rw [classify_of_done (by simp [hstatus]) hstatus, (classifyDone_duty hkind).1 hmatch]
  have hleaves := leaves_checkByte (checkOf (0x61 :: r.data)) hrecord hclock hphase hdata
  rw [hclass] at hleaves
  have hchanged := creditDuty_changed (s := s.reframed l (s.lane l).lineHeld (s.record l)) (d := d) r
  rw [duty_reframed, creditedDuty_eq howed] at hchanged
  have hinc : ((s.reframed l (s.lane l).lineHeld (s.record l)).creditDuty r d).inc = s.inc := by simp
  have howner := ownerTakes_duty (s := s.reframed l (s.lane l).lineHeld (s.record l)) (l := l) (o := .credited) hkind
  obtain ⟨htaken, hunit⟩ := takeOutcome_of_changed (good := true) hl hkind hretire (by rfl) (by rfl)
    (howner.trans (withInc_of_inc hinc).symm) hchanged (by simp) (by simp)
  exact ⟨_, leaves_reframed hleaves, hunit, htaken⟩

/-- Settles O33: DONE with data that differ, by whether the duty then faults. -/
theorem deviationOutcome : Obligations.DeviationOutcome := by
  rintro s l r d ⟨hrecord, hkind, hl, hretire⟩ hclock hphase hstatus hlength howed hcompare hdiffer
  have hdata : s.expectedData r ≤ r.data.length := by rwa [expectedData_of_done hkind hstatus]
  have hclass : s.classify r (checkOf (0x61 :: r.data)) = (.deviation, true) := by
    rw [classify_of_done (by simp [hstatus]) hstatus, (classifyDone_duty hkind).2 hcompare hdiffer]
  have hleaves := leaves_checkByte (checkOf (0x61 :: r.data)) hrecord hclock hphase hdata
  rw [hclass] at hleaves
  have howner := ownerTakes_duty (s := s.reframed l (s.lane l).lineHeld (s.record l)) (l := l) (o := .deviation) hkind
  refine ⟨_, leaves_reframed hleaves, ?_⟩
  by_cases hfaults : (s.duty d).state = .running ∧ (s.duty d).defn.haltOnDeviation = true
  · obtain ⟨hrun, hhalt⟩ := hfaults
    have hz := deviateDuty_faults (s := s.reframed l (s.lane l).lineHeld (s.record l)) l r hrun hhalt
    rw [duty_reframed, creditedDuty_eq howed] at hz
    obtain ⟨⟨hbeside, hduty, hlist, hfreed, hconfig, hport⟩, hquiet, _⟩ :=
      takeOutcome_of_faulted (good := true) hl hkind hretire (by rfl) (by rfl) (howner.trans hz) (by simp)
    obtain ⟨hgate, hcount, hinc⟩ := hquiet (by simp)
    refine ⟨hinc, fun h => ?_, fun _ _ => ⟨hbeside, hfreed, hgate, hcount, hconfig, hduty, hlist, hport⟩⟩
    simp [hrun, hhalt] at h
  · have hkept : (s.duty d).state ≠ .running ∨ (s.duty d).defn.haltOnDeviation = false := by
      by_cases hrun : (s.duty d).state = .running
      · exact .inr (Bool.eq_false_iff.mpr fun hhalt => hfaults ⟨hrun, hhalt⟩)
      · exact .inl hrun
    obtain ⟨z, hz, hchanged⟩ := deviateDuty_kept (s := s.reframed l (s.lane l).lineHeld (s.record l)) l r hkept
    rw [duty_reframed, creditedDuty_eq howed] at hchanged
    obtain ⟨htaken, hinc⟩ := takeOutcome_of_changed (good := true) hl hkind hretire (by rfl) (by rfl) (howner.trans hz) hchanged
      (by simp) (by simp)
    exact ⟨hinc, fun _ => htaken, fun hrun hhalt => absurd ⟨hrun, hhalt⟩ hfaults⟩

theorem satAdd_toNat (e : Epoch) (span : Nat) : (satAdd e span).toNat = min (e.toNat + span) (2 ^ 48 - 1) := by
  unfold satAdd Config.epochMax
  split <;> rw [BitVec.toNat_ofNat] <;> omega

/-- Settles O34: BUSY by the Busy limit, and ERROR as a failure. -/
theorem busyAndRejectedOutcomes : Obligations.BusyAndRejectedOutcomes := by
  refine fun s l r d hserves hclock hphase hdata => ?_
  obtain ⟨hrecord, hkind, hl, hretire⟩ := hserves
  have hlength : r.status ≠ some 0x61 → s.expectedData r ≤ r.data.length := by
    intro h
    rw [expectedData_of_status h]
    exact Nat.zero_le _
  refine ⟨fun hstatus => ?_, fun hstatus => ?_, satAdd_toNat⟩
  · have hclass : s.classify r 0xDA = (.busy, true) := classify_of_busy (by rw [hstatus, hdata]; decide) hstatus
    have hleaves := leaves_checkByte 0xDA hrecord hclock hphase (hlength (by rw [hstatus]; decide))
    rw [hclass] at hleaves
    have howner := ownerTakes_duty (s := s.reframed l (s.lane l).lineHeld (s.record l)) (l := l) (o := .busy) hkind
    refine ⟨fun hwithin => ?_, fun hspent => ⟨_, leaves_reframed hleaves,
      dutyFails_takeOutcome (good := true) hl hkind hretire (busyDuty_spent l r hspent) (by simp) (by simp) (by simp)⟩⟩
    obtain ⟨hchanged, hinc⟩ := busyDuty_kept (s := s.reframed l (s.lane l).lineHeld (s.record l)) l r hwithin
    obtain ⟨htaken, hunit⟩ := takeOutcome_of_changed (good := true) hl hkind hretire (by rfl) (by rfl)
      (howner.trans (withInc_of_inc hinc).symm) hchanged (by simp) (by simp)
    exact ⟨_, leaves_reframed hleaves, hunit, htaken⟩
  · have hdone : r.status ≠ some 0x61 := by rw [hstatus]; decide
    have hclass : s.classify r 0xDD = (.rejected, true) :=
      classify_of_rejected (by rw [hstatus, hdata]; decide) hdone (by rw [hstatus]; decide)
    have hleaves := leaves_checkByte 0xDD hrecord hclock hphase (hlength hdone)
    rw [hclass] at hleaves
    exact ⟨_, leaves_reframed hleaves,
      dutyFails_takeOutcome (why := .rejected) (good := true) hl hkind hretire rfl (by simp) (by simp) (by simp)⟩

-- Failures without a good check byte

/-- Settles O35: a bad check byte and an undefined status are both INTEGRITY. -/
theorem integrityOutcome : Obligations.IntegrityOutcome := by
  rintro s l r d ⟨hrecord, hkind, hl, hretire⟩ hclock
  refine ⟨fun v hphase hlength hbad => ?_, fun v hphase hpending hdone hbusy herror habsent => ?_⟩
  · have hleaves := leaves_checkByte v hrecord hclock hphase hlength
    rw [classify_of_bad hbad] at hleaves
    obtain ⟨hkept, hspent⟩ := integrity_takeOutcome (s := s) (held := (s.lane l).lineHeld) (q := s.record l) (good := false) hl
      hkind hretire
    exact ⟨fun h => ⟨_, leaves_reframed hleaves, hkept h⟩, fun h hrun => ⟨_, leaves_reframed hleaves, hspent h hrun⟩⟩
  · have hleaves := leaves_statusRead hrecord hclock (mayReadStatus_of hphase)
      (readStatus_of_undefined hpending hdone hbusy herror habsent)
    obtain ⟨hkept, hspent⟩ := integrity_takeOutcome (s := s) (held := (s.lane l).lineHeld)
      (q := some { r with status := some v }) (r := { r with status := some v }) (good := false) hl hkind hretire
    exact ⟨fun h => ⟨_, hleaves, hkept h⟩, fun h hrun => ⟨_, hleaves, hspent h hrun⟩⟩

/-- Settles O36: each row gives a failure, and leaves the lane its gate and its count. -/
theorem frameEndsWithoutCheckByte : Obligations.FrameEndsWithoutCheckByte := by
  rintro s l r d ⟨hrecord, hkind, hl, hretire⟩ hclock
  refine ⟨fun hmode hphase => ?_, fun hmode hphase => ?_, fun hmode hphase => ?_, fun hphase hlate => ?_⟩
  · exact ⟨_, leaves_reframed (leaves_addressNotAcknowledged hrecord hclock hmode (mayReadStatus_of hphase)),
      dutyFails_takeOutcome (why := .noAnswer) (good := false) hl hkind hretire rfl (by simp) (by simp) (by simp)⟩
  · exact ⟨_, leaves_reframed (leaves_requestByteRefused hrecord hclock hmode hphase),
      dutyFails_takeOutcome (why := .rejected) (good := false) hl hkind hretire rfl (by simp) (by simp) (by simp)⟩
  · exact ⟨_, leaves_statusRead hrecord hclock (mayReadStatus_of (.inl hphase)) (readStatus_of_absent hmode hphase),
      dutyFails_takeOutcome (why := .noAnswer) (good := false) hl hkind hretire rfl (by simp) (by simp) (by simp)⟩
  · exact ⟨_, leaves_statusRead hrecord hclock (mayReadStatus_of (.inl hphase)) (readStatus_of_late hphase hlate),
      dutyFails_takeOutcome (why := .timeout) (good := false)
        (r := { r with status := some 0x00, phase := .wait, tickSinceRead := false }) hl hkind hretire rfl (by simp) (by simp)
        (by simp)⟩

/-- Settles O26: a mark in REQUEST, nothing in RESPONSE, and a TIMEOUT in WAIT or on a held clock line. -/
theorem responseDeadlineByPhase : Obligations.ResponseDeadlineByPhase := by
  intro s l r hrecord hreached
  have hdue := responseDue_of hrecord hreached
  refine ⟨fun hclock hphase => ?_, fun hclock hphase => ?_, ?_⟩
  · show execResponseDeadline l s = _
    simp [execResponseDeadline, hdue, deadlineAct, hphase, hclock]
  · show execResponseDeadline l s = _
    simp [execResponseDeadline, hdue, deadlineAct, hphase, hclock]
  · rintro d ⟨_, hkind, hl, hretire⟩ hends
    exact ⟨_, leaves_reframed (leaves_responseDeadline hrecord hreached hends),
      dutyFails_takeOutcome (why := .timeout) (good := false) hl hkind hretire rfl (by simp) (by simp) (by simp)⟩

end Sys2Proof.Machine

/-! The ends of a waiting RETIRE DUTY (R15, R168), and the clock line of an ADDRESSED lane (R71, R134, R139). -/

namespace Sys2Proof.Machine

-- What every outcome of a duty leaves alone

section

variable {s : State} {d : DutyIx} {l : LaneIx} (r : InFlight)

theorem ownerTook_of_same (hl : s.laneOf d = l) {z : State} {y : Duty} (h : s.dutyChanged z d y False)
    (hdefn : y.defn = (s.duty d).defn) (hretire : y.retirePending = (s.duty d).retirePending) : s.OwnerTook z d l :=
  ownerTook_of_dutyChanged hl h hdefn hretire z.inc

theorem ownerTook_failDuty (hl : s.laneOf d = l) (why : Reason) : s.OwnerTook (s.failDuty l r d why) d l := by
  by_cases hkept : (s.duty d).attempts < (s.duty d).defn.retryLimit ∨ (s.duty d).state ≠ .running
  · obtain ⟨z, hz, hchanged⟩ := failDuty_kept l r why hkept
    rw [hz]
    exact ownerTook_of_dutyChanged hl hchanged (by rfl) (by rfl) _
  · obtain ⟨hspent, hrun⟩ := not_or.mp hkept
    rw [failDuty_faults l r why (Nat.not_lt.mp hspent) (not_not.mp hrun)]
    exact (ownerTook_faultDuty hl (by rfl) (by rfl) _).1

theorem ownerTook_dutyOutcome (hl : s.laneOf d = l) (o : Outcome) : s.OwnerTook (s.dutyOutcome l r d o) d l := by
  cases o with
  | credited => exact ownerTook_of_same hl (creditDuty_changed r) (by rfl) (by rfl)
  | deviation =>
    show s.OwnerTook (s.deviateDuty l r d) d l
    by_cases hkept : (s.duty d).state ≠ .running ∨ (s.duty d).defn.haltOnDeviation = false
    · obtain ⟨z, hz, hchanged⟩ := deviateDuty_kept l r hkept
      rw [hz]
      exact ownerTook_of_dutyChanged hl hchanged (by rfl) (by rfl) _
    · obtain ⟨hrun, hhalt⟩ := not_or.mp hkept
      rw [deviateDuty_faults l r (not_not.mp hrun) (Bool.eq_true_of_not_eq_false hhalt)]
      exact (ownerTook_faultDuty hl (by rfl) (by rfl) _).1
  | busy =>
    show s.OwnerTook (s.busyDuty l r d) d l
    by_cases hwithin : (s.duty d).busyCount < (s.duty d).defn.busyLimit
    · exact ownerTook_of_same hl (busyDuty_kept l r hwithin).1 (by rfl) (by rfl)
    · rw [busyDuty_spent l r (Nat.not_lt.mp hwithin)]
      exact ownerTook_failDuty r hl _
  | noAnswer | timeout | rejected | integrity => exact ownerTook_failDuty r hl _
  | abandoned => exact ownerTook_of_same hl abandonDuty_changed (by rfl) (by rfl)

-- The incidents of a duty that does not run (R13)

variable (hstate : (s.duty d).state ≠ .running)
include hstate

theorem inc_failDuty_of_not_running (why : Reason) : (s.failDuty l r d why).inc = s.incAfterFailure l r why := by
  obtain ⟨z, hz, _⟩ := failDuty_kept l r why (.inr hstate)
  rw [hz, inc_withInc]

theorem inc_dutyOutcome_of_quiet {o : Outcome} (hdeviation : o ≠ .deviation) (hintegrity : o ≠ .integrity) :
    (s.dutyOutcome l r d o).inc = s.inc := by
  cases o with
  | credited => exact inc_creditDuty s r d
  | deviation => exact absurd rfl hdeviation
  | busy =>
    show (s.busyDuty l r d).inc = s.inc
    by_cases hwithin : (s.duty d).busyCount < (s.duty d).defn.busyLimit
    · exact (busyDuty_kept l r hwithin).2
    · rw [busyDuty_spent l r (Nat.not_lt.mp hwithin)]
      exact inc_failDuty_of_not_running r hstate _
  | noAnswer | timeout | rejected => exact inc_failDuty_of_not_running r hstate _
  | integrity => exact absurd rfl hintegrity
  | abandoned => exact inc_abandonDuty s d

theorem inc_dutyOutcome_deviation :
    (s.dutyOutcome l r d .deviation).inc = s.inc.pass (deviationIncident s l r d) := by
  obtain ⟨z, hz, _⟩ := deviateDuty_kept l r (.inl hstate)
  show (s.deviateDuty l r d).inc = _
  rw [hz, inc_withInc]

theorem inc_dutyOutcome_integrity (hkind : r.kind = .duty d) :
    (s.dutyOutcome l r d .integrity).inc = s.inc.pass (s.integrityOf l d r) :=
  (inc_failDuty_of_not_running r hstate _).trans (incAfterFailure_integrity hkind)

end

-- The end of a waiting RETIRE DUTY

theorem sameBeside_trans {s x y : State} {d : DutyIx} {l : LaneIx} (h : s.sameBeside x d l) (h' : x.sameBeside y d l) :
    s.sameBeside y d l := by
  obtain ⟨hduty, htarget, hothers, htime, hbus, hpending⟩ := h
  obtain ⟨hduty', htarget', hothers', htime', hbus', hpending'⟩ := h'
  refine ⟨fun e he => (hduty' e he).trans (hduty e he), fun g => (htarget' g).trans (htarget g), fun j hj => ?_,
    htime'.trans htime, hbus'.trans hbus, hpending'.trans hpending⟩
  obtain ⟨hlane, hlist, hrecord⟩ := hothers j hj
  obtain ⟨hlane', hlist', hrecord'⟩ := hothers' j hj
  exact ⟨hlane'.trans hlane, hlist'.trans hlist, hrecord'.trans hrecord⟩

theorem command_setCommand (u : IncidentUnit) : u.setCommand.summary.command = true := rfl

section

variable {s z : State} {l : LaneIx} {held : Bool} {q : Option InFlight} {d : DutyIx} {r : InFlight} {o : Outcome} {good : Bool}
  {n : Nat}

/-- The pins of the lane are those at which its frame ended (R139). -/
theorem frame_leftBusy (htook : (s.reframed l held q).OwnerTook z d l) (hkind : r.kind = .duty d) :
    ((z.leftBusy l r n o good).lane l).pins = ({ s.lane l with lineHeld := held } : Lane).endFrame.pins ∧
      ((z.leftBusy l r n o good).lane l).stopWaiting = ({ s.lane l with lineHeld := held } : Lane).endFrame.stopWaiting ∧
      ((z.leftBusy l r n o good).lane l).lineHeld = held := by
  have hlane : z.lane l = { s.lane l with lineHeld := held } := by rw [htook.lane, lane_reframed, if_pos rfl]
  obtain ⟨g, b, y, c, m, v, hreported⟩ := Lane.reported_frame { s.lane l with lineHeld := held } s.now o good
  have hframe : (({ s.lane l with lineHeld := held } : Lane).reported s.now o good).endFrame =
      { ({ s.lane l with lineHeld := held } : Lane).endFrame with
        gate := g, blackoutEnd := b, yielding := y, integrityCount := c, latched := m, recoveryEnd := v } := by
    rw [hreported]
    simp only [Lane.endFrame, Lane.clockHeld, Lane.idlePins]
    split <;> rfl
  have hheld : ({ s.lane l with lineHeld := held } : Lane).endFrame.lineHeld = held := by
    unfold Lane.endFrame
    split <;> rfl
  rw [lane_leftBusy_duty _ _ _ _ _ _ hkind, hlane, now_of_ownerTook htook, hframe]
  split <;> exact ⟨rfl, rfl, hheld⟩

theorem laneOf_of_ownerTook (htook : (s.reframed l held q).OwnerTook z d l) : z.laneOf d = s.laneOf d := by
  obtain ⟨_, htarget, _⟩ := htook.beside
  simp [State.laneOf, State.targetOf, htook.defn, htarget]

theorem laneOf_leftBusy (z : State) (l : LaneIx) (r : InFlight) (n : Nat) (o : Outcome) (good : Bool) (d : DutyIx) :
    (z.leftBusy l r n o good).laneOf d = z.laneOf d := by
  simp [State.laneOf, State.targetOf]

/-- The lane that leaves BUSY carries no lock of another duty, where it becomes QUIET (R64). -/
theorem quietLock_vacated (htook : (s.reframed l held q).OwnerTook z d l) (hl : s.laneOf d = l) (hkind : r.kind = .duty d)
    (ho : o ≠ .abandoned) (hn : 0 < n) :
    (((z.leftBusy l r n o good).vacateDuty d).lane l).quietLock = none := by
  have hw : (z.leftBusy l r n o good).laneOf d = l :=
    (laneOf_leftBusy z l r n o good d).trans ((laneOf_of_ownerTook htook).trans hl)
  obtain ⟨hdrops, hkeeps⟩ := lane_vacateDuty_self (z.leftBusy l r n o good) d
  rw [hw] at hdrops hkeeps
  by_cases hcarries : ((z.leftBusy l r n o good).lane l).carries d
  · rw [hdrops hcarries]
  · rw [hkeeps hcarries]
    unfold Lane.carries at hcarries
    rw [lane_leftBusy_duty _ _ _ _ _ _ hkind, if_pos ⟨ho, hn⟩] at hcarries ⊢
    dsimp only at hcarries ⊢
    split at hcarries
    · next hholds =>
      cases hlock : z.lockOf d with
      | none => simp
      | some g => simp [hlock] at hcarries
    · next hholds => rw [if_neg hholds]

/-- The end of a waiting RETIRE DUTY vacates the duty behind the outcome (R14, R15, R64). -/
theorem retiredBy_takeOutcome (hl : s.laneOf d = l) (hkind : r.kind = .duty d) (hretire : (s.duty d).retirePending = true)
    (ho : o ≠ .abandoned) :
    s.retiredBy ((s.reframed l held q).takeOutcome l r o good) l d ∧
      ((s.reframed l held q).takeOutcome l r o good).inc =
        ((((s.reframed l held q).dutyOutcome l r d o).leftBusy l r (s.duty d).defn.quietTime o good).inc).setCommand ∧
      (((s.reframed l held q).takeOutcome l r o good).lane l) =
        { (((s.reframed l held q).dutyOutcome l r d o).leftBusy l r (s.duty d).defn.quietTime o good).lane l with
          quietLock := (((s.reframed l held q).takeOutcome l r o good).lane l).quietLock } := by
  have htook : (s.reframed l held q).OwnerTook ((s.reframed l held q).dutyOutcome l r d o) d l :=
    ownerTook_dutyOutcome r (by exact hl) o
  rw [takeOutcome_of_retiring hkind hretire (ownerTakes_duty hkind) htook]
  have hquiet := fun hn => quietLock_vacated (n := (s.duty d).defn.quietTime) (good := good) htook hl hkind ho hn
  have hbeside := sameBeside_leftBusy (r := r) (o := o) (good := good) (n := (s.duty d).defn.quietTime) htook
  have hfreed := lineFreed_leftBusy (good := good) (n := (s.duty d).defn.quietTime) htook hkind ho
  have hconfig := sameConfig_leftBusy (o := o) (good := good) (n := (s.duty d).defn.quietTime) htook hkind
  have hport := port_leftBusy_of_ownerTook (r := r) (o := o) (good := good) (n := (s.duty d).defn.quietTime) htook
  have hlist : ((((s.reframed l held q).dutyOutcome l r d o).leftBusy l r (s.duty d).defn.quietTime o good).list l).filter
      (fun e => e ≠ d) = (s.list l).filter (fun e => e ≠ d) := by
    rw [list_leftBusy]
    exact htook.list
  have hlaneOf : (((s.reframed l held q).dutyOutcome l r d o).leftBusy l r (s.duty d).defn.quietTime o good).laneOf d = l :=
    (laneOf_leftBusy _ l r _ o good d).trans ((laneOf_of_ownerTook htook).trans hl)
  have hlockOf : (((s.reframed l held q).dutyOutcome l r d o).leftBusy l r (s.duty d).defn.quietTime o good).lockOf d =
      s.lockOf d := by
    rw [← lockOf_of_ownerTook htook]
    exact lockOf_of_duty (by simp)
  generalize ((s.reframed l held q).dutyOutcome l r d o).leftBusy l r (s.duty d).defn.quietTime o good = w at *
  obtain ⟨hrecord, hbecomesQuiet, hbecomesIdle⟩ := hfreed
  have hlane := lane_vacateDuty_quietLock w d
  rw [hlaneOf] at hlane
  have hbeside' := sameBeside_vacateDuty w d
  rw [hlaneOf] at hbeside'
  refine ⟨⟨?_, ?_, ?_, sameBeside_trans hbeside hbeside', fun k => ?_, ?_, ?_, fun hn => ?_, fun hn => ?_, ?_⟩, ?_, hlane⟩
  · rw [duty_recordResult, duty_vacateDuty, if_pos rfl]
  · rw [record_recordResult, record_vacateDuty, hrecord]
  · rw [list_recordResult, list_vacateDuty, if_pos hlaneOf.symm, hlist]
  · rw [lock_recordResult, lock_vacateDuty, hlockOf]
    by_cases hn : 0 < (s.duty d).defn.quietTime
    · obtain ⟨_, _, hlock⟩ := hbecomesQuiet hn
      rw [hlock]
    · obtain ⟨_, hlock⟩ := hbecomesIdle (by omega)
      rw [hlock]
      by_cases hheld : s.lockOf d = some k ∧ s.lock k = some d
      · rw [if_pos hheld]
        exact ite_self _
      · rw [if_neg hheld, if_neg hheld]
  · rw [port_recordResult, port_vacateDuty, hport]
  · rw [inc_recordResult]
    exact command_setCommand _
  · obtain ⟨hactivity, hend, _⟩ := hbecomesQuiet hn
    rw [lane_recordResult]
    refine ⟨?_, ?_, hquiet hn⟩
    · rw [hlane]
      exact hactivity
    · rw [hlane]
      exact hend
  · rw [lane_recordResult, hlane]
    exact (hbecomesIdle hn).1
  · rw [lane_recordResult, hlane]
    exact hconfig
  · rw [inc_recordResult, inc_vacateDuty]

end

end Sys2Proof.Machine

/-! The statements about a waiting RETIRE DUTY and about the clock line. -/

namespace Sys2Proof.Machine

section

variable {s : State} {l : LaneIx} {held : Bool} {q : Option InFlight} {d : DutyIx} {r : InFlight} {o : Outcome} {good : Bool}
  (hl : s.laneOf d = l) (hkind : r.kind = .duty d) (hretire : (s.duty d).retirePending = true)
include hl hkind hretire

/-- It ends with an outcome other than INTEGRITY (R15, R75). -/
theorem retiredQuietly_takeOutcome (u : IncidentUnit) (ho : o ≠ .integrity) (ho' : o ≠ .abandoned)
    (hu : (s.duty d).state = .stopped → ((s.reframed l held q).dutyOutcome l r d o).inc = u) :
    s.retiredQuietly ((s.reframed l held q).takeOutcome l r o good) l d u
      (if good = true then 0 else (s.lane l).integrityCount) := by
  have htook : (s.reframed l held q).OwnerTook ((s.reframed l held q).dutyOutcome l r d o) d l :=
    ownerTook_dutyOutcome r (by exact hl) o
  obtain ⟨hretired, hinc, hlane⟩ := retiredBy_takeOutcome (held := held) (q := q) (good := good) hl hkind hretire ho'
  obtain ⟨hgate, hcount⟩ := gate_leftBusy_of_quiet (n := (s.duty d).defn.quietTime) (good := good) htook hkind ho
  refine ⟨hretired, ?_, ?_, fun hstopped => ?_⟩
  · rw [hlane]
    exact hgate
  · rw [hlane]
    exact hcount
  · rw [hinc, inc_leftBusy, if_neg ho, hu hstopped]

/-- It ends with a failure, or ABANDONED apart, that leaves no incident of a STOPPED duty (R13, R15). -/
theorem retiredQuietly_of_quiet (hdeviation : o ≠ .deviation) (ho : o ≠ .integrity) (ho' : o ≠ .abandoned) :
    s.retiredQuietly ((s.reframed l held q).takeOutcome l r o good) l d s.inc
      (if good = true then 0 else (s.lane l).integrityCount) :=
  retiredQuietly_takeOutcome hl hkind hretire s.inc ho ho' fun hstopped =>
    inc_dutyOutcome_of_quiet (s := s.reframed l held q) r (not_running_of_stopped hstopped) hdeviation ho

/-- It ends with INTEGRITY (R15, R82, R126). -/
theorem retiredAndSuspended_takeOutcome :
    s.retiredAndSuspended ((s.reframed l held q).takeOutcome l r .integrity good) l d r := by
  have htook : (s.reframed l held q).OwnerTook ((s.reframed l held q).dutyOutcome l r d .integrity) d l :=
    ownerTook_dutyOutcome r (by exact hl) .integrity
  obtain ⟨hretired, hinc, hlane⟩ :=
    retiredBy_takeOutcome (held := held) (q := q) (o := .integrity) (good := good) hl hkind hretire (by simp)
  obtain ⟨hgate, hcount, hblackout, hyield, hconfig, hthird, hbefore⟩ :=
    laneSuspended_leftBusy (n := (s.duty d).defn.quietTime) (good := good) htook hkind
  refine ⟨hretired, ?_, fun hstopped => ?_⟩
  · unfold State.laneSuspended
    rw [hlane]
    exact ⟨hgate, hcount, hblackout, hyield, hconfig, hthird, hbefore⟩
  · have hrun : ((s.reframed l held q).duty d).state ≠ .running := not_running_of_stopped hstopped
    rw [hinc, inc_leftBusy, if_pos rfl, inc_dutyOutcome_integrity r hrun hkind]
    rfl

end

theorem endFrame_of_free {x : Lane} (h : x.clockHeld = false) : x.endFrame = { x with pins := x.idlePins, stopWaiting := false } := by
  simp [Lane.endFrame, h]

theorem endFrame_of_held {x : Lane} (h : x.clockHeld = true) :
    x.endFrame = { x with pins := { x.idlePins with clk := .released, dout := .low }, stopWaiting := true } := by
  obtain ⟨hconfigured, hmode, _⟩ := (clockHeld_iff x).mp h
  simp [Lane.endFrame, h, Lane.idlePins, hconfigured, hmode]

/-- The pins of a frame that ends with the clock line held (R139). -/
theorem endFrame_pins_of_held {x : Lane} (hconfigured : x.configured = true) (hmode : x.mode = .addressed) :
    ({ x with lineHeld := true } : Lane).endFrame.stopWaiting = true ∧
      ({ x with lineHeld := true } : Lane).endFrame.pins.dout = .low ∧
      ({ x with lineHeld := true } : Lane).endFrame.pins.clk = .released := by
  have hheld : ({ x with lineHeld := true } : Lane).clockHeld = true := (clockHeld_iff _).mpr ⟨hconfigured, hmode, rfl⟩
  rw [endFrame_of_held hheld]
  exact ⟨rfl, rfl, rfl⟩

-- The rows that end a waiting RETIRE DUTY

section

variable {s : State} {l : LaneIx} {r : InFlight} {d : DutyIx}

theorem retires_checkByte (h : s.retires l r d) {v : Byte} (hclock : (s.lane l).clockHeld = false) (hphase : r.phase = .response)
    (hdata : s.expectedData r ≤ r.data.length) (hv : v = checkOf (r.status.getD 0 :: r.data)) :
    ∃ (x : State) (u : IncidentUnit), leaves (.checkByte l v) s x [l] ∧ s.retiredQuietly x l d u 0 ∧
      ((r.status = some 0x61 → (s.duty d).defn.compare = true →
          matchesUnder ((s.duty d).defn.expected.getD []) ((s.duty d).defn.mask.getD []) r.data) → u = s.inc) ∧
      (r.status = some 0x61 → (s.duty d).defn.compare = true →
        ¬matchesUnder ((s.duty d).defn.expected.getD []) ((s.duty d).defn.mask.getD []) r.data →
        u = s.inc.pass
          { kind := .deviation, epoch := s.now, lane := l, target := r.target, duty := some d
            attempt := some r.attempt, status := some 0x61, data := some r.data }) := by
  obtain ⟨hrecord, hkind, hl, hretire⟩ := h
  have hleaves := leaves_checkByte v hrecord hclock hphase hdata
  by_cases hdiffers : r.status = some 0x61 ∧ (s.duty d).defn.compare = true ∧
      ¬matchesUnder ((s.duty d).defn.expected.getD []) ((s.duty d).defn.mask.getD []) r.data
  · obtain ⟨hstatus, hcompare, hdiffer⟩ := hdiffers
    have hclass : s.classify r v = (.deviation, true) := by
      rw [classify_of_done hv hstatus, (classifyDone_duty hkind).2 hcompare hdiffer]
    rw [hclass] at hleaves
    refine ⟨_, _, leaves_reframed hleaves, retiredQuietly_takeOutcome (good := true) hl hkind hretire
      (s.inc.pass (deviationIncident s l r d)) (by simp) (by simp) fun hstopped => ?_, fun h => absurd (h hstatus hcompare) hdiffer,
      fun _ _ _ => rfl⟩
    exact inc_dutyOutcome_deviation (s := s.reframed l (s.lane l).lineHeld (s.record l)) r (not_running_of_stopped hstopped)
  · have hquiet : ∃ o, s.classify r v = (o, true) ∧ o ≠ .deviation ∧ o ≠ .integrity ∧ o ≠ .abandoned := by
      by_cases hdone : r.status = some 0x61
      · have hmatch : (s.duty d).defn.compare = false ∨
            matchesUnder ((s.duty d).defn.expected.getD []) ((s.duty d).defn.mask.getD []) r.data := by
          by_contra hnot
          obtain ⟨hcompare, hdiffer⟩ := not_or.mp hnot
          exact hdiffers ⟨hdone, Bool.eq_true_of_not_eq_false hcompare, hdiffer⟩
        exact ⟨.credited, by rw [classify_of_done hv hdone, (classifyDone_duty hkind).1 hmatch], by simp⟩
      · by_cases hbusy : r.status = some 0x62
        · exact ⟨.busy, classify_of_busy hv hbusy, by simp⟩
        · exact ⟨.rejected, classify_of_rejected hv hdone hbusy, by simp⟩
    obtain ⟨o, hclass, hdeviation, ho, ho'⟩ := hquiet
    rw [hclass] at hleaves
    exact ⟨_, s.inc, leaves_reframed hleaves, retiredQuietly_of_quiet (good := true) hl hkind hretire hdeviation ho ho',
      fun _ => rfl, fun hstatus hcompare hdiffer => absurd ⟨hstatus, hcompare, hdiffer⟩ hdiffers⟩

theorem retires_statusRead (h : s.retires l r d) {v : Byte} (hclock : (s.lane l).clockHeld = false)
    (hphase : r.phase = .request ∨ (r.phase = .wait ∧ r.tickSinceRead = true)) :
    (v = 0x00 → r.phase = .request → r.deadlinePassed = true →
      ∃ x : State, leaves (.statusRead l v) s x [l] ∧ s.retiredQuietly x l d s.inc (s.lane l).integrityCount) ∧
    (v = 0xFF → (s.lane l).mode = .select → r.phase = .request →
      ∃ x : State, leaves (.statusRead l v) s x [l] ∧ s.retiredQuietly x l d s.inc (s.lane l).integrityCount) ∧
    (v ≠ 0x00 → v ≠ 0x61 → v ≠ 0x62 → v ≠ 0x63 → v ≠ 0xFF ∨ (s.lane l).mode = .addressed ∨ r.phase = .wait →
      ∃ x : State, leaves (.statusRead l v) s x [l] ∧ s.retiredAndSuspended x l d { r with status := some v }) := by
  obtain ⟨hrecord, hkind, hl, hretire⟩ := h
  have hread := mayReadStatus_of hphase
  refine ⟨fun hv hrequest hlate => ?_, fun hv hmode hrequest => ?_, fun hpending hdone hbusy herror habsent => ?_⟩
  · subst hv
    exact ⟨_, leaves_statusRead hrecord hclock hread (readStatus_of_late hrequest hlate),
      retiredQuietly_of_quiet (o := .timeout) (good := false)
        (r := { r with status := some 0x00, phase := .wait, tickSinceRead := false }) hl hkind hretire (by simp) (by simp)
        (by simp)⟩
  · subst hv
    exact ⟨_, leaves_statusRead hrecord hclock hread (readStatus_of_absent hmode hrequest),
      retiredQuietly_of_quiet (o := .noAnswer) (good := false) hl hkind hretire (by simp) (by simp) (by simp)⟩
  · exact ⟨_, leaves_statusRead hrecord hclock hread (readStatus_of_undefined hpending hdone hbusy herror habsent),
      retiredAndSuspended_takeOutcome (r := { r with status := some v }) hl hkind hretire⟩

theorem retires_clockLineHold (h : s.retires l r d) (hconfigured : (s.lane l).configured = true)
    (hmode : (s.lane l).mode = .addressed) (hphase : r.phase ≠ .wait) (hreached : r.deadline.toNat ≤ s.now.toNat) :
    ∃ x : State, leaves (.clockLineHold l) s x [l] ∧ (x.lane l).lineHeld = true ∧ (x.lane l).stopWaiting = true ∧
      (x.lane l).pins.dout = .low ∧ (x.lane l).pins.clk = .released ∧
      s.retiredQuietly x l d s.inc (s.lane l).integrityCount := by
  obtain ⟨hrecord, hkind, hl, hretire⟩ := h
  have htook : (s.reframed l true (s.record l)).OwnerTook ((s.reframed l true (s.record l)).dutyOutcome l r d .timeout) d l :=
    ownerTook_dutyOutcome r (by exact hl) .timeout
  obtain ⟨_, _, hlane⟩ :=
    retiredBy_takeOutcome (held := true) (q := s.record l) (o := .timeout) (good := false) hl hkind hretire (by simp)
  obtain ⟨hpins, hstop, hheld⟩ :=
    frame_leftBusy (o := .timeout) (good := false) (n := (s.duty d).defn.quietTime) htook hkind
  obtain ⟨hwaits, hdata, hclk⟩ := endFrame_pins_of_held hconfigured hmode
  refine ⟨_, leaves_clockLineHold hrecord hconfigured hmode hphase hreached, ?_, ?_, ?_, ?_,
    retiredQuietly_of_quiet (good := false) hl hkind hretire (by simp) (by simp) (by simp)⟩
  · rw [hlane]
    exact hheld
  · rw [hlane]
    exact hstop.trans hwaits
  · rw [hlane]
    exact (congrArg Pins.dout hpins).trans hdata
  · rw [hlane]
    exact (congrArg Pins.clk hpins).trans hclk

/-- ABORT ends the wait and leaves the transaction in flight (R171). -/
theorem exec_abort_of_working (hworking : s.port.state = .working) (hwaits : s.waitingDuty = d) :
    exec .abort s =
      .next { s.setDuty d { s.duty d with retirePending := false } with
        port := { s.port with latched := s.port.staging, code := 0x30, result := .aborted, state := .ready }
        inc := s.inc.setCommand } := by
  rw [exec_abort, abort_of_working hworking, hwaits]
  rfl

end

/-- Settles O8: each row that ends a transaction leaves the duty vacated, and ABORT ends the wait alone. -/
theorem waitingRetireEnds : Obligations.WaitingRetireEnds := by
  refine ⟨fun s l r d h => ?_, fun s d => exec_abort_of_working, fun s d => waitingDuty_of_index⟩
  obtain ⟨hrecord, hkind, hl, hretire⟩ := id h
  refine ⟨fun v hclock hphase hdata => ⟨retires_checkByte h hclock hphase hdata, fun hbad => ?_⟩, fun hreached hends => ?_,
    fun v => retires_statusRead h, fun hclock hmode hphase => ?_, fun hclock hmode hphase => ?_, retires_clockLineHold h⟩
  · have hleaves := leaves_checkByte v hrecord hclock hphase hdata
    rw [classify_of_bad hbad] at hleaves
    exact ⟨_, leaves_reframed hleaves, retiredAndSuspended_takeOutcome hl hkind hretire⟩
  · exact ⟨_, leaves_reframed (leaves_responseDeadline hrecord hreached hends),
      retiredQuietly_of_quiet (good := false) hl hkind hretire (by simp) (by simp) (by simp)⟩
  · exact ⟨_, leaves_reframed (leaves_addressNotAcknowledged hrecord hclock hmode (mayReadStatus_of hphase)),
      retiredQuietly_of_quiet (good := false) hl hkind hretire (by simp) (by simp) (by simp)⟩
  · exact ⟨_, leaves_reframed (leaves_requestByteRefused hrecord hclock hmode hphase),
      retiredQuietly_of_quiet (good := false) hl hkind hretire (by simp) (by simp) (by simp)⟩

-- The clock line

section

variable {s : State} {l : LaneIx}

/-- A hold by which no transaction ends only records the input (log 9). -/
theorem exec_clockLineHold_of_none (h : ∀ r, s.record l = some r → r.phase = .wait ∨ s.now.toNat < r.deadline.toNat) :
    exec (.clockLineHold l) s = .next (s.setLane l { s.lane l with lineHeld := true }) := by
  have hends : (s.setLane l { s.lane l with lineHeld := true }).holdEnds l = none := by
    rw [State.holdEnds, record_setLane, Option.filter_eq_none_iff]
    intro r hr
    rcases h r hr with hwait | hlate
    · simp [hwait]
    · have hnot : ¬r.deadline.toNat ≤ s.now.toNat := by omega
      simp [reached, hnot]
  show execClockLineHold l s = _
  simp only [execClockLineHold, hends, ite_self]

theorem serves_clockLineHold {r : InFlight} {d : DutyIx} (h : s.serves l r d) (hconfigured : (s.lane l).configured = true)
    (hmode : (s.lane l).mode = .addressed) (hphase : r.phase ≠ .wait) (hreached : r.deadline.toNat ≤ s.now.toNat) :
    ∃ x : State, leaves (.clockLineHold l) s x [l] ∧ (x.lane l).lineHeld = true ∧ (x.lane l).stopWaiting = true ∧
      (x.lane l).pins.dout = .low ∧ (x.lane l).pins.clk = .released ∧
      s.dutyFails x l d r .timeout .timeout (s.lane l).integrityCount := by
  obtain ⟨hrecord, hkind, hl, hretire⟩ := h
  have htook : (s.reframed l true (s.record l)).OwnerTook ((s.reframed l true (s.record l)).dutyOutcome l r d .timeout) d l :=
    ownerTook_dutyOutcome r (by exact hl) .timeout
  obtain ⟨hpins, hstop, hheld⟩ :=
    frame_leftBusy (o := .timeout) (good := false) (n := (s.duty d).defn.quietTime) htook hkind
  obtain ⟨hwaits, hdata, hclk⟩ := endFrame_pins_of_held hconfigured hmode
  have htaken := takeOutcome_of_owner (good := false) hkind hretire (ownerTakes_duty hkind) htook
  refine ⟨_, leaves_clockLineHold hrecord hconfigured hmode hphase hreached, ?_, ?_, ?_, ?_,
    dutyFails_takeOutcome (why := .timeout) (good := false) hl hkind hretire rfl (by simp) (by simp) (by simp)⟩
  · rw [htaken]
    exact hheld
  · rw [htaken]
    exact hstop.trans hwaits
  · rw [htaken]
    exact (congrArg Pins.dout hpins).trans hdata
  · rw [htaken]
    exact (congrArg Pins.clk hpins).trans hclk

/-- The release of the clock line (R139). -/
theorem lane_clockLineRelease (s : State) (l : LaneIx) :
    ∃ t : State, exec (.clockLineRelease l) s = .next t ∧ (t.lane l).lineHeld = false ∧ (t.lane l).stopWaiting = false ∧
      t = s.setLane l { s.lane l with lineHeld := false, stopWaiting := false, pins := (t.lane l).pins } ∧
      ((s.lane l).stopWaiting = false → (t.lane l).pins = (s.lane l).pins) ∧
      ((s.lane l).stopWaiting = true → (t.lane l).pins = s.releasedPins l) := by
  refine ⟨_, rfl, ?_⟩
  cases hstop : (s.lane l).stopWaiting
  · simp [hstop]
  · simp

end

/-- Settles O37: the hold with and without a transaction that ends, the release, and the ends of frames. -/
theorem clockLineHoldAndRelease : Obligations.ClockLineHoldAndRelease := by
  refine ⟨fun s l => exec_clockLineHold_of_none, fun s l r d => serves_clockLineHold, fun s l => ?_,
    fun x => ⟨clockHeld_iff x, endFrame_of_free, endFrame_of_held⟩⟩
  obtain ⟨t, hexec, hheld, hstop, heq, hkept, hreleased⟩ := lane_clockLineRelease s l
  refine ⟨t, hexec, hheld, hstop, heq, hkept, fun hwaits => ⟨fun hnone => ?_, fun r hr => ?_⟩⟩
  · have hpins : (t.lane l).pins = (s.lane l).idlePins := by rw [hreleased hwaits, State.releasedPins, hnone]
    exact ⟨hpins, hpins ▸ idleLevels_idlePins _⟩
  · rw [hreleased hwaits, State.releasedPins, hr]
    exact frameBegun_framePins _ _

end Sys2Proof.Machine

/-! The deadlines of targets (R104, R106), the looks that follow a backoff end and a minimum hold end (R50, R96), the choice of a
look (R48 to R56) and the issue (R58, R69). -/

namespace Sys2Proof.Machine

-- The deadlines of targets

theorem targetDue_iff (s : State) (g : TargetIx) (h : HoldState) (k : DeadlineKind) :
    s.targetDue g h k = true ↔
      (s.target g).holdState = h ∧ (s.target g).deadlineKind = k ∧
        ∃ e, (s.target g).deadline = some e ∧ e.toNat ≤ s.now.toNat := by
  simp [State.targetDue, presentAndReached_iff, and_assoc]

/-- Settles O30: the state each deadline leaves before its look. -/
theorem holdLimitsReached : Obligations.HoldLimitsReached := by
  refine ⟨fun s g e hstate hkind hdeadline hreached => leaves_of_lock_eq ?_ (List.nodup_singleton _) fun k => rfl,
    fun s g e hstate hkind hdeadline hreached => leaves_of_lock_eq ?_ (List.nodup_singleton _) fun k => rfl⟩
  · have hdue : s.targetDue g .held .maximum = true := (targetDue_iff _ _ _ _).mpr ⟨hstate, hkind, e, hdeadline, hreached⟩
    show execMaximumHoldEnd g s = _
    rw [execMaximumHoldEnd, if_pos hdue]
    rfl
  · have hdue : s.targetDue g .settling .settle = true := (targetDue_iff _ _ _ _).mpr ⟨hstate, hkind, e, hdeadline, hreached⟩
    show execSettleEnd g s = _
    rw [execSettleEnd, if_pos hdue]

-- Looks at one lane

theorem looks_single_of_none (s : State) (l : LaneIx) (h : s.mayIssue l = false ∨ s.choose l = none) : s.looks [l] = s := by
  rcases h with h | h
  · exact looks_of_not_mayIssue s [l] (by simp [h])
  · exact looks_of_no_candidate s [l] (by simp [h])

/-- An event that changes no field and prompts a look at one lane (R53). -/
theorem prompts_look {c : Instr} {s : State} {l : LaneIx} (hexec : exec c s = .next (s.looks [l])) :
    leaves c s s [l] ∧ (s.mayIssue l = false → exec c s = .next s) ∧
      ∀ e, s.mayIssue l = true → s.choose l = some e → exec c s = .next (s.issue l e) := by
  refine ⟨leaves_of_lock_eq hexec (List.nodup_singleton l) fun _ => rfl, fun h => ?_, fun e h he => ?_⟩
  · rw [hexec, looks_single_of_none s l (.inl h)]
  · rw [hexec, looks_single s l h e he]

/-- Settles O22: both rows only look at one lane. -/
theorem endsThatOnlyPromptALook : Obligations.EndsThatOnlyPromptALook := by
  refine ⟨fun s d e hbackoff hreached => prompts_look ?_, fun s g e hstate hkind hdeadline hreached => prompts_look ?_⟩
  · have hdue : presentAndReached s.now (s.duty d).backoffUntil = true :=
      (presentAndReached_iff _ _).mpr ⟨e, hbackoff, hreached⟩
    show execBackoffEnd d s = _
    rw [execBackoffEnd, if_pos hdue]
  · have hdue : s.targetDue g .leaving .minimum = true := (targetDue_iff _ _ _ _).mpr ⟨hstate, hkind, e, hdeadline, hreached⟩
    show execMinimumHoldEnd g s = _
    rw [execMinimumHoldEnd, if_pos hdue]

-- The choice of a look

theorem mayIssue_iff (s : State) (l : LaneIx) :
    s.mayIssue l = true ↔ (s.lane l).gate = .opened ∧ (s.lane l).activity = .idle := by
  simp [State.mayIssue]

theorem pressedTicket_iff (s : State) (d : DutyIx) :
    s.pressedTicket d = true ↔ (s.duty d).owed = (s.duty d).defn.deferLimit + 1 ∧ s.eligibleByFields d := by
  rw [State.pressedTicket, Bool.and_eq_true, atLimit_iff, eligible_iff]

theorem dueTicket_iff (s : State) (d : DutyIx) :
    s.dueTicket d = true ↔ (s.duty d).owed ≠ (s.duty d).defn.deferLimit + 1 ∧ s.eligibleByFields d := by
  rw [State.dueTicket, Bool.and_eq_true, Bool.not_eq_true', Bool.eq_false_iff, ne_eq, atLimit_iff, eligible_iff]

/-- A ticket of class DUE, by what its duty wants (R42, R48). -/
theorem dueTicket_iff_of_wants {s : State} {d : DutyIx} (hsound : (s.duty d).owedSound) (hwants : (s.duty d).wantsIssue = true) :
    s.dueTicket d = true ↔
      ((1 ≤ (s.duty d).owed ∧ (s.duty d).owed ≤ (s.duty d).defn.deferLimit) ∨
          (((s.duty d).catchUp = true ∨ (s.duty d).forced = true) ∧ (s.duty d).owed < (s.duty d).defn.deferLimit + 1)) ∧
        s.eligibleByFields d := by
  obtain ⟨⟨_, hhigh⟩, _⟩ := hsound
  rw [dueTicket_iff, and_congr_left_iff]
  intro _
  refine ⟨fun hbelow => ?_, ?_⟩
  · rcases (wantsIssue_iff _).mp hwants with h | h
    · exact .inl ⟨h, by omega⟩
    · exact .inr ⟨h, by omega⟩
  · rintro (⟨_, h⟩ | ⟨_, h⟩) <;> omega

/-- The first element of a list that passes a test, with what stands before it. -/
theorem find?_eq_some_split {α : Type} {p : α → Bool} {xs : List α} {x : α} (h : xs.find? p = some x) :
    ∃ a b, xs = a ++ x :: b ∧ p x = true ∧ ∀ y ∈ a, p y = false := by
  obtain ⟨hx, a, b, heq, hbefore⟩ := List.find?_eq_some_iff_append.mp h
  exact ⟨a, b, heq, hx, fun y hy => by simpa using hbefore y hy⟩

/-- The first of the target Indices that passes a test is the lowest. -/
theorem find?_allTargets_lowest {p : TargetIx → Bool} {g : TargetIx} (h : allTargets.find? p = some g) :
    p g = true ∧ ∀ k, k < g → p k = false := by
  obtain ⟨a, b, heq, hg, hbefore⟩ := find?_eq_some_split h
  refine ⟨hg, fun k hk => hbefore k ?_⟩
  have hsorted : (a ++ g :: b).Pairwise (· < ·) := heq ▸ List.pairwise_lt_finRange 32
  have hmem : k ∈ a ++ g :: b := heq ▸ mem_allTargets k
  rcases List.mem_append.mp hmem with h | h
  · exact h
  · rcases List.mem_cons.mp h with h | h
    · exact absurd h (Fin.ne_of_lt hk)
    · obtain ⟨_, htail, _⟩ := List.pairwise_append.mp hsorted
      exact absurd ((List.pairwise_cons.mp htail).1 k h) (Fin.lt_asymm hk)

-- The best advance candidate (R56)

/-- One step of the search for the best advance candidate. -/
def State.betterAdvance (s : State) (l : LaneIx) (best : Option DutyIx) (d : DutyIx) : Option DutyIx :=
  if s.advanceCandidate l d then
    match best with
    | none => some d
    | some b => if (s.duty b).owed < (s.duty d).owed then some d else some b
  else best

theorem bestAdvance_eq (s : State) (l : LaneIx) : s.bestAdvance l = allDuties.foldl (s.betterAdvance l) none := rfl

/-- The duty `d` goes before the duty `e`, or is it (R56). -/
def State.advanceBefore (s : State) (d e : DutyIx) : Prop :=
  (s.duty e).owed < (s.duty d).owed ∨ ((s.duty e).owed = (s.duty d).owed ∧ d ≤ e)

theorem advanceBefore_refl (s : State) (d : DutyIx) : s.advanceBefore d d := .inr ⟨rfl, le_refl d⟩

theorem advanceBefore_trans {s : State} {d e f : DutyIx} (h : s.advanceBefore d e) (h' : s.advanceBefore e f) :
    s.advanceBefore d f := by
  unfold State.advanceBefore at *
  rcases h with h | ⟨h, hle⟩ <;> rcases h' with h' | ⟨h', hle'⟩
  · exact .inl (by omega)
  · exact .inl (by omega)
  · exact .inl (by omega)
  · exact .inr ⟨by omega, le_trans hle hle'⟩

/-- A step keeps the better of the two, where the one kept so far has the lower Index. -/
theorem betterAdvance_spec {s : State} {l : LaneIx} {best : Option DutyIx} {d b : DutyIx}
    (hbest : ∀ e, best = some e → s.advanceCandidate l e = true ∧ e < d) (h : s.betterAdvance l best d = some b) :
    s.advanceCandidate l b = true ∧ (best = some b ∨ b = d) ∧ (∀ e, best = some e → s.advanceBefore b e) ∧
      (s.advanceCandidate l d = true → s.advanceBefore b d) := by
  unfold State.betterAdvance at h
  by_cases hd : s.advanceCandidate l d = true
  · rw [if_pos hd] at h
    cases best with
    | none =>
      obtain rfl : d = b := by simpa using h
      exact ⟨hd, .inr rfl, by simp, fun _ => advanceBefore_refl s d⟩
    | some e =>
      obtain ⟨he, hlt⟩ := hbest e rfl
      dsimp only at h
      split at h
      · next hgreater =>
        obtain rfl : d = b := by simpa using h
        exact ⟨hd, .inr rfl, fun f hf => by simpa [← Option.some.inj hf] using .inl hgreater, fun _ => advanceBefore_refl s d⟩
      · next hless =>
        obtain rfl : e = b := by simpa using h
        refine ⟨he, .inl rfl, fun f hf => by simpa [← Option.some.inj hf] using advanceBefore_refl s e, fun _ => ?_⟩
        rcases lt_or_eq_of_le (not_lt.mp hless) with hlt' | heq
        · exact .inl hlt'
        · exact .inr ⟨heq, le_of_lt hlt⟩
  · rw [if_neg hd] at h
    exact ⟨(hbest b h).1, .inl h, fun f hf => by simpa [← Option.some.inj (h.symm.trans hf)] using advanceBefore_refl s b,
      fun hc => absurd hc hd⟩

/-- A step that keeps nothing has found nothing. -/
theorem betterAdvance_eq_none {s : State} {l : LaneIx} {best : Option DutyIx} {d : DutyIx}
    (h : s.betterAdvance l best d = none) : best = none ∧ s.advanceCandidate l d = false := by
  unfold State.betterAdvance at h
  split at h
  · cases best with
    | none => cases h
    | some e =>
      dsimp only at h
      split at h <;> cases h
  · next hd => exact ⟨h, Bool.eq_false_iff.mpr hd⟩

theorem foldl_betterAdvance {s : State} {l : LaneIx} (ds : List DutyIx) :
    ∀ (best : Option DutyIx) (b : DutyIx), ds.Pairwise (· < ·) →
      (∀ e, best = some e → s.advanceCandidate l e = true ∧ ∀ x ∈ ds, e < x) → ds.foldl (s.betterAdvance l) best = some b →
      s.advanceCandidate l b = true ∧ (∀ e, best = some e → s.advanceBefore b e) ∧
        ∀ e ∈ ds, s.advanceCandidate l e = true → s.advanceBefore b e := by
  induction ds with
  | nil =>
    intro best b _ hbest h
    rw [List.foldl_nil] at h
    exact ⟨(hbest b h).1, fun e he => by simpa [← Option.some.inj (h.symm.trans he)] using advanceBefore_refl s b, by simp⟩
  | cons d ds ih =>
    intro best b hsorted hbest h
    obtain ⟨hhead, htail⟩ := List.pairwise_cons.mp hsorted
    have hfirst : ∀ e, best = some e → s.advanceCandidate l e = true ∧ e < d := fun e he =>
      ⟨(hbest e he).1, (hbest e he).2 d (by simp)⟩
    rw [List.foldl_cons] at h
    have hnext : ∀ e, s.betterAdvance l best d = some e → s.advanceCandidate l e = true ∧ ∀ x ∈ ds, e < x := by
      intro e he
      obtain ⟨hcandidate, hfrom, _⟩ := betterAdvance_spec hfirst he
      refine ⟨hcandidate, fun x hx => ?_⟩
      rcases hfrom with hkept | rfl
      · exact (hbest e hkept).2 x (by simp [hx])
      · exact hhead x hx
    obtain ⟨hcandidate, hbefore, hrest⟩ := ih _ b htail hnext h
    refine ⟨hcandidate, fun e he => ?_, fun e he hc => ?_⟩
    · cases hstep : s.betterAdvance l best d with
      | none => simp [(betterAdvance_eq_none hstep).1] at he
      | some f =>
        obtain ⟨_, _, hkept, _⟩ := betterAdvance_spec hfirst hstep
        exact advanceBefore_trans (hbefore f hstep) (hkept e he)
    · rcases List.mem_cons.mp he with rfl | he
      · cases hstep : s.betterAdvance l best e with
        | none => simp [(betterAdvance_eq_none hstep).2] at hc
        | some f =>
          obtain ⟨_, _, _, hnew⟩ := betterAdvance_spec hfirst hstep
          exact advanceBefore_trans (hbefore f hstep) (hnew hc)
      · exact hrest e he hc

theorem bestAdvance_spec {s : State} {l : LaneIx} {d : DutyIx} (h : s.bestAdvance l = some d) :
    s.advanceCandidate l d = true ∧ ∀ e, s.advanceCandidate l e = true → s.advanceBefore d e := by
  rw [bestAdvance_eq] at h
  obtain ⟨hcandidate, _, hbest⟩ :=
    foldl_betterAdvance allDuties none d (List.pairwise_lt_finRange 64) (by simp) h
  exact ⟨hcandidate, fun e => hbest e (mem_allDuties e)⟩

theorem eligible_eq_false_of_tickets {s : State} {d : DutyIx} (hpressed : s.pressedTicket d = false)
    (hdue : s.dueTicket d = false) : s.eligible d = false := by
  unfold State.pressedTicket at hpressed
  unfold State.dueTicket at hdue
  cases hlimit : (s.duty d).atLimit
  · simpa [hlimit] using hdue
  · simpa [hlimit] using hpressed

/-- What a look chooses (R54 to R56). -/
theorem choose_spec (s : State) (l : LaneIx) :
    match s.choose l with
    | some (.exit g) => s.exitReady l g = true ∧ ∀ h, h < g → s.exitReady l h = false
    | some (.entry g) =>
      (∀ h, s.exitReady l h = false) ∧ s.entryReady l g = true ∧ ∀ h, h < g → s.entryReady l h = false
    | some (.duty d) =>
      (∀ h, s.exitReady l h = false ∧ s.entryReady l h = false) ∧
        ((∃ a b, s.list l = a ++ d :: b ∧ s.pressedTicket d = true ∧ ∀ e ∈ a, s.pressedTicket e = false) ∨
          ((∀ e ∈ s.list l, s.pressedTicket e = false) ∧
            ∃ a b, s.list l = a ++ d :: b ∧ s.dueTicket d = true ∧ ∀ e ∈ a, s.dueTicket e = false) ∨
          ((∀ e ∈ s.list l, s.eligible e = false) ∧ s.advanceCandidate l d = true ∧
            ∀ e, s.advanceCandidate l e = true → s.advanceBefore d e))
    | none =>
      (∀ h, s.exitReady l h = false ∧ s.entryReady l h = false) ∧ (∀ e ∈ s.list l, s.eligible e = false) ∧
        ∀ e, s.advanceCandidate l e = false := by
  by_cases hnone : s.choose l = none
  · obtain ⟨hexit, hentry, hlist, hadvance⟩ := (choose_eq_none_iff s l).mp hnone
    rw [hnone]
    exact ⟨fun h => ⟨hexit h, hentry h⟩, hlist, hadvance⟩
  · unfold State.choose at hnone ⊢
    cases hexit : allTargets.find? (s.exitReady l) with
    | some g => exact find?_allTargets_lowest hexit
    | none =>
      have hexits : ∀ h, s.exitReady l h = false := fun h => by simpa using List.find?_eq_none.mp hexit h (mem_allTargets h)
      cases hentry : allTargets.find? (s.entryReady l) with
      | some g => exact ⟨hexits, find?_allTargets_lowest hentry⟩
      | none =>
        have hentries : ∀ h, s.entryReady l h = false := fun h => by
          simpa using List.find?_eq_none.mp hentry h (mem_allTargets h)
        have hholds : ∀ h, s.exitReady l h = false ∧ s.entryReady l h = false := fun h => ⟨hexits h, hentries h⟩
        cases hpressed : (s.list l).find? s.pressedTicket with
        | some d => exact ⟨hholds, .inl (find?_eq_some_split hpressed)⟩
        | none =>
          have hnotPressed : ∀ e ∈ s.list l, s.pressedTicket e = false := fun e he => by
            simpa using List.find?_eq_none.mp hpressed e he
          cases hdue : (s.list l).find? s.dueTicket with
          | some d => exact ⟨hholds, .inr (.inl ⟨hnotPressed, find?_eq_some_split hdue⟩)⟩
          | none =>
            have hnotDue : ∀ e ∈ s.list l, s.dueTicket e = false := fun e he => by
              simpa using List.find?_eq_none.mp hdue e he
            cases hbest : s.bestAdvance l with
            | some d =>
              exact ⟨hholds, .inr (.inr ⟨fun e he => eligible_eq_false_of_tickets (hnotPressed e he) (hnotDue e he),
                bestAdvance_spec hbest⟩)⟩
            | none => simp [hexit, hentry, hpressed, hdue, hbest] at hnone

/-- Settles O23: the choice by its cases, and what each test says of the fields. -/
theorem lookTakesTheFirstCandidate : Obligations.LookTakesTheFirstCandidate :=
  ⟨choose_spec, fun s l => ⟨mayIssue_iff s l, fun g => ⟨exitReady_iff s l g, entryReady_iff s l g⟩⟩,
    fun s d => ⟨eligible_iff s d, pressedTicket_iff s d, dueTicket_iff s d, dueTicket_iff_of_wants⟩, advanceCandidate_iff⟩

end Sys2Proof.Machine

/-! The issue of a candidate (R58, R69, R98, R132): the whole record, the lane, the lock, and what it leaves alone. -/

namespace Sys2Proof.Machine

-- The target, the record and the lane of an issue

/-- The target that the transaction of a candidate goes to. -/
def State.targetOfCandidate (s : State) : Candidate → TargetIx
  | .exit g => g
  | .entry g => g
  | .duty d => (s.duty d).defn.target

/-- The record of a candidate issued now (R69). -/
def State.recordOf (s : State) : Candidate → InFlight
  | .exit g => s.newRecord .holdExit g ((s.target g).holdAttempts + 1) false
  | .entry g => s.newRecord .holdEntry g ((s.target g).holdAttempts + 1) false
  | .duty d => s.newRecord (.duty d) (s.duty d).defn.target ((s.duty d).attempts + 1) (s.duty d).forced

/-- A lane at the issue of a transaction to the Address (R58, R132, R139). -/
def Lane.issued (x : Lane) (address : Byte) : Lane :=
  { x with activity := .busy, pins := if x.stopWaiting then x.pins else x.framePins address }

section

variable (s : State) (l : LaneIx) (c : Candidate)

theorem record_issue (j : LaneIx) : (s.issue l c).record j = if j = l then some (s.recordOf c) else s.record j := by
  cases c <;> simp [State.issue, State.issueHold, State.issueDuty, State.recordOf, record_beginFrame]
  by_cases hj : j = l <;> simp [hj, record_takeLockOf]

theorem lane_issue (j : LaneIx) :
    (s.issue l c).lane j =
      if j = l then (s.lane l).issued (s.target (s.targetOfCandidate c)).defn.address else s.lane j := by
  cases c with
  | exit g => simp [State.issue, State.issueHold, State.targetOfCandidate, Lane.issued, lane_beginFrame]
  | entry g => simp [State.issue, State.issueHold, State.targetOfCandidate, Lane.issued, lane_beginFrame]
  | duty d =>
    simp [State.issue, State.issueDuty, State.targetOfCandidate, Lane.issued, lane_beginFrame, lane_takeLockOf,
      target_takeLockOf]

theorem lock_issue_eq (k : LockIx) :
    (s.issue l c).lock k = if s.claimOf c = some k then (match c with | .duty d => some d | _ => none) else s.lock k := by
  cases c with
  | exit g => simp [State.issue, State.issueHold, State.claimOf, lock_beginFrame]
  | entry g => simp [State.issue, State.issueHold, State.claimOf, lock_beginFrame]
  | duty d =>
    simp [State.issue, State.issueDuty, State.claimOf, lock_beginFrame, lock_takeLockOf, State.lockOf]
    rfl

theorem duty_issue_eq (e : DutyIx) :
    (s.issue l c).duty e = if c = .duty e then { s.duty e with ticket := false, inFlight := true } else s.duty e := by
  cases c with
  | exit g => simp [State.issue, State.issueHold, duty_beginFrame]
  | entry g => simp [State.issue, State.issueHold, duty_beginFrame]
  | duty d =>
    by_cases he : e = d
    · simp [State.issue, State.issueDuty, duty_beginFrame, duty_takeLockOf, he]
    · simp [State.issue, State.issueDuty, duty_beginFrame, duty_takeLockOf, he, Ne.symm he]

end

-- What Table 1-1 and Table 5-1 say of a duty and of a target, an issue keeps

theorem duty_issue_fields (s : State) (l : LaneIx) (c : Candidate) (e : DutyIx) :
    ((s.issue l c).duty e).defn = (s.duty e).defn ∧ ((s.issue l c).duty e).attempts = (s.duty e).attempts ∧
      ((s.issue l c).duty e).forced = (s.duty e).forced := by
  rw [duty_issue_eq]
  split <;> exact ⟨rfl, rfl, rfl⟩

theorem target_issue_fields (s : State) (l : LaneIx) (c : Candidate) (g : TargetIx) :
    ((s.issue l c).target g).defn = (s.target g).defn ∧ ((s.issue l c).target g).holdAttempts = (s.target g).holdAttempts := by
  rcases target_issue_cases s l c g with h | h | h <;> rw [h] <;> exact ⟨rfl, rfl⟩

theorem recordOf_issue (s : State) (l : LaneIx) (b c : Candidate) : (s.issue l b).recordOf c = s.recordOf c := by
  have hnow : (s.issue l b).now = s.now := by simp [State.now]
  cases c with
  | exit g =>
    obtain ⟨hdefn, hattempts⟩ := target_issue_fields s l b g
    simp [State.recordOf, State.newRecord, hnow, hdefn, hattempts]
  | entry g =>
    obtain ⟨hdefn, hattempts⟩ := target_issue_fields s l b g
    simp [State.recordOf, State.newRecord, hnow, hdefn, hattempts]
  | duty d =>
    obtain ⟨hduty, hattempts, hforced⟩ := duty_issue_fields s l b d
    obtain ⟨hdefn, _⟩ := target_issue_fields s l b (s.duty d).defn.target
    simp [State.recordOf, State.newRecord, hnow, hduty, hattempts, hforced, hdefn]

theorem addressOfCandidate_issue (s : State) (l : LaneIx) (b c : Candidate) :
    ((s.issue l b).target ((s.issue l b).targetOfCandidate c)).defn.address =
      (s.target (s.targetOfCandidate c)).defn.address := by
  have hcandidate : (s.issue l b).targetOfCandidate c = s.targetOfCandidate c := by
    cases c with
    | exit g => rfl
    | entry g => rfl
    | duty d => exact congrArg DutyDef.target (duty_issue_fields s l b d).1
  rw [hcandidate, (target_issue_fields s l b _).1]

theorem Lane.issued_issued (x : Lane) (a b : Byte) : (x.issued a).issued b = x.issued b := by
  cases hstop : x.stopWaiting <;> simp [Lane.issued, hstop, Lane.framePins, Lane.idlePins]

/-- The record and the lane that an issue gives do not depend on an issue before it. -/
theorem issue_issue_self (s : State) (m l : LaneIx) (b c : Candidate) :
    ((s.issue m b).issue l c).record l = (s.issue l c).record l ∧ ((s.issue m b).issue l c).lane l = (s.issue l c).lane l := by
  rw [record_issue s, record_issue (s.issue m b), lane_issue s l c, lane_issue (s.issue m b), if_pos rfl, if_pos rfl, if_pos rfl,
    if_pos rfl, recordOf_issue, addressOfCandidate_issue, lane_issue]
  refine ⟨rfl, ?_⟩
  split
  · next h =>
    subst h
    rw [Lane.issued_issued]
  · rfl

-- The statement

theorem issuePins_issued (x : Lane) (address : Byte) : x.issuePins address (x.issued address).pins := by
  refine ⟨fun h => ?_, fun h => ?_⟩
  · simpa [Lane.issued, h] using frameBegun_framePins x address
  · simp [Lane.issued, h]

/-- The issue of a duty beside its own fields (R46, R58). -/
theorem sameBeside_issueDuty {s : State} {l : LaneIx} {d : DutyIx} (hl : s.laneOf d = l) :
    s.sameBeside (s.issue l (.duty d)) d l := by
  refine ⟨fun e he => ?_, fun g => ?_, fun j hj => ⟨?_, ?_, ?_⟩, by simp, by simp, by simp⟩
  · rw [duty_issue_eq, if_neg (by simpa using Ne.symm he)]
  · simp [State.issue, State.issueDuty, target_beginFrame, target_takeLockOf]
  · rw [lane_issue, if_neg hj]
  · simp [State.issue, State.issueDuty, list_beginFrame, list_takeLockOf, hl, hj]
  · rw [record_issue, if_neg hj]

theorem holdIssued_issue {s : State} {l : LaneIx} {g : TargetIx} {c : Candidate} {kind : TxnKind} {txn : HoldTransaction}
    (hissue : s.issue l c = s.issueHold l g kind txn)
    (hrecord : s.recordOf c = s.newRecord kind g ((s.target g).holdAttempts + 1) false) (hcandidate : s.targetOfCandidate c = g) :
    s.holdIssued (s.issue l c) l g kind txn := by
  have hlane : (s.issue l c).lane l = (s.lane l).issued (s.target g).defn.address := by
    rw [lane_issue, if_pos rfl, hcandidate]
  refine ⟨⟨s.recordOf c, by rw [record_issue, if_pos rfl], ?_⟩, ?_, fun h hh => ?_, ?_, ?_, fun j hj => ⟨?_, ?_⟩, fun d => ?_,
    fun j => ?_, fun k => ?_, by simp, by simp, by simp, by simp, by simp⟩
  · rw [hrecord]
    exact ⟨rfl, rfl, rfl, rfl, rfl, satAdd_toNat _ _, rfl, rfl, rfl, rfl⟩
  · rw [hissue]
    simp [State.issueHold, target_beginFrame]
  · rw [hissue]
    simp [State.issueHold, target_beginFrame, hh]
  · rw [hlane]
    rfl
  · rw [hlane]
    exact issuePins_issued _ _
  · rw [lane_issue, if_neg hj]
  · rw [record_issue, if_neg hj]
  · rw [hissue]
    simp [State.issueHold, duty_beginFrame]
  · rw [hissue]
    simp [State.issueHold, list_beginFrame]
  · rw [hissue]
    simp [State.issueHold, lock_beginFrame]

/-- Settles O24: the record, the lane and the lock of each kind of issue. -/
theorem issueBuildsTheRecord : Obligations.IssueBuildsTheRecord := by
  refine ⟨fun s l d hl => ⟨s.issue l (.duty d), s.recordOf (.duty d), rfl, ?_, rfl, rfl, rfl, rfl, rfl, satAdd_toNat _ _, rfl,
    rfl, rfl, rfl, ?_, sameBeside_issueDuty hl, ?_, ?_, ?_, fun k => ?_, by simp, by simp⟩,
    fun s l g => ⟨holdIssued_issue rfl rfl rfl, holdIssued_issue rfl rfl rfl⟩⟩
  · rw [record_issue, if_pos rfl]
  · rw [duty_issue_eq, if_pos rfl]
  · simp [State.issue, State.issueDuty, list_beginFrame, list_takeLockOf, hl]
  · rw [lane_issue, if_pos rfl]
    rfl
  · rw [lane_issue, if_pos rfl]
    exact issuePins_issued _ _
  · rw [lock_issue_eq]
    rfl

end Sys2Proof.Machine

/-! The rounds in which the looks of one event claim the share locks (R53, R57, R61, R62). -/

namespace Sys2Proof.Machine

-- The claims of a look

theorem firstClaim_of_choose {s : State} {l : LaneIx} {c : Candidate} (h : s.choose l = some c) : s.firstClaim l = s.claimOf c := by
  rw [State.firstClaim, h]
  cases c <;> rfl

theorem firstClaim_of_none {s : State} {l : LaneIx} (h : s.choose l = none) : s.firstClaim l = none := by
  rw [State.firstClaim, h]

theorem claimLost_iff (s : State) (ls : List LaneIx) (l : LaneIx) :
    s.claimLost ls l = true ↔
      ∃ k, s.firstClaim l = some k ∧ ∃ m ∈ ls, m < l ∧ s.mayIssue m = true ∧ s.firstClaim m = some k := by
  simp [State.claimLost, Option.any_eq_true, and_assoc]

theorem claimLost_of_no_claim {s : State} {l : LaneIx} (ls : List LaneIx) (h : s.firstClaim l = none) :
    s.claimLost ls l = false := by
  rw [State.claimLost, h]
  rfl

theorem claimLost_filter (s : State) (ls : List LaneIx) (l : LaneIx) :
    s.claimLost (ls.filter s.mayIssue) l = s.claimLost ls l := by
  rw [Bool.eq_iff_iff, claimLost_iff, claimLost_iff]
  simp only [List.mem_filter, and_assoc]
  refine exists_congr fun k => and_congr_right fun _ => exists_congr fun m => and_congr_right fun _ => ?_
  tauto

theorem issueFirst_of_choose {s : State} {l : LaneIx} {c : Candidate} (x : State) (h : s.choose l = some c) :
    s.issueFirst x l = x.issue l c := by
  rw [State.issueFirst, h]

theorem issueFirst_of_none {s : State} {l : LaneIx} (x : State) (h : s.choose l = none) : s.issueFirst x l = x := by
  rw [State.issueFirst, h]

/-- An issue of a chosen duty finds its share lock FREE (R51, R57). -/
theorem claim_free_of_choose {s : State} {l : LaneIx} {c : Candidate} {k : LockIx} (h : s.choose l = some c)
    (hclaim : s.claimOf c = some k) : s.lock k = none := by
  have hcan := canIssue_of_choose h
  cases c with
  | exit g => cases hclaim
  | entry g => cases hclaim
  | duty d => exact (lockFree_iff s d).mp hcan k ((lockOf_eq_some_iff s d k).mp hclaim)

-- One round, over the lanes themselves

/-- The candidates of the lanes, each with its lane. -/
def State.claimsAt (s : State) (ls : List LaneIx) : List (LaneIx × Candidate) :=
  ls.filterMap fun l => (s.choose l).map fun c => (l, c)

section

variable {s : State}

theorem claimsAt_cons (l : LaneIx) (ls : List LaneIx) :
    s.claimsAt (l :: ls) = (match s.choose l with | some c => [(l, c)] | none => []) ++ s.claimsAt ls := by
  unfold State.claimsAt
  cases h : s.choose l <;> simp [h]

theorem mem_claimsAt {ls : List LaneIx} {p : LaneIx × Candidate} : p ∈ s.claimsAt ls ↔ p.1 ∈ ls ∧ s.choose p.1 = some p.2 := by
  obtain ⟨l, c⟩ := p
  simp only [State.claimsAt, List.mem_filterMap, Option.map_eq_some_iff, Prod.mk.injEq]
  constructor
  · rintro ⟨m, hm, e, he, rfl, rfl⟩
    exact ⟨hm, he⟩
  · exact fun ⟨hl, hc⟩ => ⟨l, hl, c, hc, rfl, rfl⟩

/-- The issue of those claims that stand at the lanes a test picks. -/
theorem foldl_issue_claims {q : LaneIx × Candidate → Bool} {r : LaneIx → Bool} (ls : List LaneIx)
    (h : ∀ l ∈ ls, ∀ c, s.choose l = some c → q (l, c) = r l) (x : State) :
    ((s.claimsAt ls).filter q).foldl (fun acc p => acc.issue p.1 p.2) x = (ls.filter r).foldl s.issueFirst x := by
  induction ls generalizing x with
  | nil => rfl
  | cons l ls ih =>
    have hrest := ih fun m hm => h m (List.mem_cons_of_mem _ hm)
    rw [claimsAt_cons, List.filter_append, List.foldl_append, hrest]
    cases hc : s.choose l with
    | none => cases hr : r l <;> simp [hr, issueFirst_of_none x hc]
    | some c =>
      have hq := h l (List.mem_cons_self ..) c hc
      cases hr : r l <;> simp [hr, hr ▸ hq, issueFirst_of_choose x hc]

theorem map_fst_claims {q : LaneIx × Candidate → Bool} {r : LaneIx → Bool} (ls : List LaneIx)
    (h : ∀ l ∈ ls, ∀ c, s.choose l = some c → q (l, c) = r l) (hnone : ∀ l, s.choose l = none → r l = false) :
    ((s.claimsAt ls).filter q).map (·.1) = ls.filter r := by
  induction ls with
  | nil => rfl
  | cons l ls ih =>
    have hrest := ih fun m hm => h m (List.mem_cons_of_mem _ hm)
    rw [claimsAt_cons, List.filter_append, List.map_append, hrest]
    cases hc : s.choose l with
    | none => simp [hnone l hc]
    | some c =>
      have hq := h l (List.mem_cons_self ..) c hc
      cases hr : r l <;> simp [hr, hr ▸ hq]

/-- A claim is refused when it is lost to a lower-numbered lane (R61). -/
theorem claimRefused_eq {ls : List LaneIx} (hmay : ∀ l ∈ ls, s.mayIssue l = true) {l : LaneIx} {c : Candidate}
    (hc : s.choose l = some c) : s.claimRefused (s.claimsAt ls) l c = s.claimLost ls l := by
  have hrefused : s.claimRefused (s.claimsAt ls) l c = true ↔
      ∃ k, s.claimOf c = some k ∧ ∃ p ∈ s.claimsAt ls, p.1 < l ∧ s.claimOf p.2 = some k := by
    unfold State.claimRefused
    cases s.claimOf c <;> simp
  rw [Bool.eq_iff_iff, hrefused, claimLost_iff, firstClaim_of_choose hc]
  refine exists_congr fun k => and_congr_right fun _ => ⟨?_, ?_⟩
  · rintro ⟨⟨m, e⟩, hp, hlt, hclaim⟩
    obtain ⟨hm, he⟩ := mem_claimsAt.mp hp
    exact ⟨m, hm, hlt, hmay m hm, (firstClaim_of_choose he).trans hclaim⟩
  · rintro ⟨m, hm, hlt, _, hclaim⟩
    cases he : s.choose m with
    | none =>
      rw [firstClaim_of_none he] at hclaim
      cases hclaim
    | some e => exact ⟨(m, e), mem_claimsAt.mpr ⟨hm, he⟩, hlt, (firstClaim_of_choose he).symm.trans hclaim⟩

/-- A round issues the first candidates of the lanes whose claims are not lost, and the other lanes look again (R57, R61). -/
theorem lookRounds_succ (n : Nat) {ls : List LaneIx} (hmay : ∀ l ∈ ls, s.mayIssue l = true) :
    lookRounds (n + 1) ls s =
      lookRounds n (ls.filter fun l => s.claimLost ls l) ((ls.filter fun l => !s.claimLost ls l).foldl s.issueFirst s) := by
  have hrefused (l : LaneIx) (hl : l ∈ ls) (c : Candidate) (hc : s.choose l = some c) :
      s.claimRefused (s.claimsAt ls) l c = s.claimLost ls l := claimRefused_eq hmay hc
  show lookRounds n (((s.claimsAt ls).filter fun p => s.claimRefused (s.claimsAt ls) p.1 p.2).map (·.1))
    (((s.claimsAt ls).filter fun p => !s.claimRefused (s.claimsAt ls) p.1 p.2).foldl (fun acc p => acc.issue p.1 p.2) s) = _
  rw [foldl_issue_claims ls fun l hl c hc => congrArg not (hrefused l hl c hc),
    map_fst_claims ls hrefused fun l h => claimLost_of_no_claim ls (firstClaim_of_none h)]

/-- A round leaves fewer lanes to look. -/
theorem card_lost {n : Nat} {ls : List LaneIx} (hmay : ∀ l ∈ ls, s.mayIssue l = true) (h : ls.toFinset.card ≤ n + 1) :
    (ls.filter fun l => s.claimLost ls l).toFinset.card ≤ n := by
  have hrefused := refused_card_lt s ls n h (s.claimsAt ls) rfl
  rwa [map_fst_claims ls (fun l _ c hc => claimRefused_eq hmay hc)
    fun l h => claimLost_of_no_claim ls (firstClaim_of_none h)] at hrefused

end

-- What the issues of a round keep

theorem foldl_issueFirst_kept {P : State → Prop} {s : State} (ls : List LaneIx)
    (h : ∀ x l c, P x → l ∈ ls → s.choose l = some c → P (x.issue l c)) (x : State) (hx : P x) :
    P (ls.foldl s.issueFirst x) := by
  induction ls generalizing x with
  | nil => exact hx
  | cons l ls ih =>
    refine ih (fun x m c hP hm => h x m c hP (List.mem_cons_of_mem _ hm)) _ ?_
    cases hc : s.choose l with
    | none => rwa [issueFirst_of_none x hc]
    | some c =>
      rw [issueFirst_of_choose x hc]
      exact h x l c hx (List.mem_cons_self ..) hc

theorem foldl_issueFirst_apart {s : State} {ls : List LaneIx} {j : LaneIx} (hj : j ∉ ls) (x : State) :
    (ls.foldl s.issueFirst x).record j = x.record j ∧ (ls.foldl s.issueFirst x).lane j = x.lane j :=
  foldl_issueFirst_kept (P := fun y => y.record j = x.record j ∧ y.lane j = x.lane j) ls
    (fun y l c ⟨hrecord, hlane⟩ hl _ =>
      have hne : j ≠ l := fun e => hj (e ▸ hl)
      ⟨(record_issue_ne y l c j hne).trans hrecord, (lane_issue_ne y l c j hne).trans hlane⟩) x ⟨rfl, rfl⟩

theorem mayIssue_congr {s x : State} {j : LaneIx} (h : x.lane j = s.lane j) : x.mayIssue j = s.mayIssue j := by
  rw [State.mayIssue, State.mayIssue, h]

/-- An issue on `x` gives the record and the lane that it gives on `s`. -/
def State.issuesAs (s x : State) : Prop :=
  ∀ l c, (x.issue l c).record l = (s.issue l c).record l ∧ (x.issue l c).lane l = (s.issue l c).lane l

theorem issuesAs_issue {s x : State} (h : s.issuesAs x) (m : LaneIx) (b : Candidate) : s.issuesAs (x.issue m b) := by
  intro l c
  obtain ⟨hrecord, hlane⟩ := issue_issue_self x m l b c
  exact ⟨hrecord.trans (h l c).1, hlane.trans (h l c).2⟩

theorem foldl_issueFirst_self {s : State} {l : LaneIx} {c : Candidate} (hc : s.choose l = some c) (ls : List LaneIx)
    (hl : l ∈ ls) (x : State) (hx : s.issuesAs x) :
    (ls.foldl s.issueFirst x).record l = (s.issue l c).record l ∧ (ls.foldl s.issueFirst x).lane l = (s.issue l c).lane l := by
  induction ls generalizing x with
  | nil => cases hl
  | cons m ls ih =>
    rw [List.foldl_cons]
    by_cases hrest : l ∈ ls
    · refine ih hrest _ ?_
      cases hm : s.choose m with
      | none => rwa [issueFirst_of_none x hm]
      | some b => rw [issueFirst_of_choose x hm]; exact issuesAs_issue hx m b
    · obtain rfl : l = m := (List.mem_cons.mp hl).resolve_right hrest
      obtain ⟨hrecord, hlane⟩ := foldl_issueFirst_apart hrest (s.issueFirst x l)
      rw [hrecord, hlane, issueFirst_of_choose x hc]
      exact hx l c

/-- The lanes refused in a round may still issue after its grants. -/
theorem mayIssue_lost {s : State} {ls : List LaneIx} (hmay : ∀ l ∈ ls, s.mayIssue l = true) :
    ∀ l ∈ ls.filter fun l => s.claimLost ls l,
      ((ls.filter fun l => !s.claimLost ls l).foldl s.issueFirst s).mayIssue l = true := by
  intro l hl
  obtain ⟨hmem, hlost⟩ := List.mem_filter.mp hl
  rw [mayIssue_congr (foldl_issueFirst_apart (by simp [hlost]) s).2, hmay l hmem]

-- What all rounds keep

/-- What the issues of chosen candidates keep, the rounds keep. The state a round starts from, and those between its issues, are
told apart: the choice is made in the first. -/
theorem lookRounds_keeps {P : State → Prop} {all : List LaneIx}
    (h : ∀ z x l c, P z → P x → l ∈ all → z.choose l = some c → P (x.issue l c)) (n : Nat) (ls : List LaneIx)
    (hsub : ∀ l ∈ ls, l ∈ all) (z : State) (hmay : ∀ l ∈ ls, z.mayIssue l = true) (hz : P z) : P (lookRounds n ls z) := by
  induction n generalizing ls z with
  | zero => exact hz
  | succ n ih =>
    rw [lookRounds_succ n hmay]
    refine ih _ (fun l hl => hsub l (List.mem_filter.mp hl).1) _ (mayIssue_lost hmay) ?_
    exact foldl_issueFirst_kept _ (fun x l c hx hl hc => h z x l c hz hx (hsub l (List.mem_filter.mp hl).1) hc) z hz

theorem mayIssue_of_mem_filter {s : State} {ls : List LaneIx} : ∀ l ∈ ls.filter s.mayIssue, s.mayIssue l = true :=
  fun _ hl => (List.mem_filter.mp hl).2

theorem looks_keeps {P : State → Prop} {ls : List LaneIx}
    (h : ∀ z x l c, P z → P x → l ∈ ls → z.choose l = some c → P (x.issue l c)) (z : State) (hz : P z) : P (z.looks ls) :=
  lookRounds_keeps h 4 _ (fun _ hl => (List.mem_filter.mp hl).1) z mayIssue_of_mem_filter hz

/-- The looks at other lanes leave a lane and its record. -/
theorem looks_apart {s : State} {ls : List LaneIx} {j : LaneIx} (hj : j ∉ ls) :
    (s.looks ls).record j = s.record j ∧ (s.looks ls).lane j = s.lane j :=
  looks_keeps (P := fun y => y.record j = s.record j ∧ y.lane j = s.lane j)
    (fun _ y l c _ ⟨hrecord, hlane⟩ hl _ =>
      have hne : j ≠ l := fun e => hj (e ▸ hl)
      ⟨(record_issue_ne y l c j hne).trans hrecord, (lane_issue_ne y l c j hne).trans hlane⟩) s ⟨rfl, rfl⟩

/-- The claims are those of `s`, and a duty that needs the lock is as in `s`. -/
def State.unissued (s : State) (k : LockIx) (e : DutyIx) (x : State) : Prop :=
  (∀ c, x.claimOf c = s.claimOf c) ∧ (s.lockOf e = some k → x.duty e = s.duty e)

/-- The lock is held by `d`, and the duty `e`, where it needs the lock too, is as in `s`. -/
def State.withheld (s : State) (k : LockIx) (d e : DutyIx) (x : State) : Prop := x.lock k = some d ∧ s.unissued k e x

theorem unissued_issue {s x : State} {k : LockIx} {d e : DutyIx} {c : Candidate} (l : LaneIx) (hx : s.unissued k e x)
    (hne : e ≠ d) (hclaim : s.claimOf c = some k → c = .duty d) : s.unissued k e (x.issue l c) := by
  obtain ⟨hclaims, hduty⟩ := hx
  refine ⟨fun b => (claimOf_issue x l c b).trans (hclaims b), fun he => ?_⟩
  have hother : c ≠ .duty e := by
    rintro rfl
    exact hne (Candidate.duty.inj (hclaim he))
  rw [duty_issue_eq, if_neg hother, hduty he]

/-- A candidate that does not claim the lock, or is the duty `d`, leaves it with `d`. -/
theorem withheld_issue {s x : State} {k : LockIx} {d e : DutyIx} {c : Candidate} (l : LaneIx) (hx : s.withheld k d e x)
    (hne : e ≠ d) (hclaim : s.claimOf c = some k → c = .duty d) : s.withheld k d e (x.issue l c) := by
  obtain ⟨hlock, hunissued⟩ := hx
  refine ⟨?_, unissued_issue l hunissued hne hclaim⟩
  rw [lock_issue_eq, hunissued.1]
  split
  · next h => rw [hclaim h]
  · exact hlock

/-- A lock that is HELD stays with its duty in the looks of one event, and no duty that needs it is issued (R51, R57). -/
theorem looks_withheld {s z : State} {k : LockIx} {d e : DutyIx} (ls : List LaneIx) (hne : e ≠ d) (hz : s.withheld k d e z) :
    s.withheld k d e (z.looks ls) :=
  looks_keeps (P := s.withheld k d e) (fun z x l c hz hx _ hc => withheld_issue l hx hne fun hclaim => by
    have hfree := claim_free_of_choose hc ((hz.2.1 c).trans hclaim)
    rw [hz.1] at hfree
    cases hfree) z hz

-- After the rounds no lane that may issue has a candidate

/-- The lane has nothing to issue. -/
def State.exhausted (x : State) (l : LaneIx) : Prop := x.mayIssue l = true → x.choose l = none

theorem exhausted_issue {x : State} {l : LaneIx} (h : x.exhausted l) (m : LaneIx) (c : Candidate) : (x.issue m c).exhausted l := by
  intro hmay
  rw [mayIssue_issue, Bool.and_eq_true] at hmay
  exact choose_issue_eq_none m c (h hmay.1)

theorem lookRounds_exhausts (n : Nat) (ls : List LaneIx) (z : State) (hmay : ∀ l ∈ ls, z.mayIssue l = true)
    (hcard : ls.toFinset.card ≤ n) : ∀ l ∈ ls, (lookRounds n ls z).exhausted l := by
  induction n generalizing ls z with
  | zero =>
    intro l hl
    obtain rfl : ls = [] := by simpa using hcard
    cases hl
  | succ n ih =>
    intro l hl
    rw [lookRounds_succ n hmay]
    have hlost := mayIssue_lost hmay
    cases hclaim : z.claimLost ls l with
    | true => exact ih _ _ hlost (card_lost hmay hcard) l (List.mem_filter.mpr ⟨hl, hclaim⟩)
    | false =>
      refine lookRounds_keeps (P := (·.exhausted l)) (all := ls) (fun _ x m c _ hx _ _ => exhausted_issue hx m c) n _
        (fun m hm => (List.mem_filter.mp hm).1) _ hlost ?_
      cases hc : z.choose l with
      | none =>
        exact foldl_issueFirst_kept (P := (·.exhausted l)) _ (fun x m c hx _ _ => exhausted_issue hx m c) z fun _ => hc
      | some c =>
        have hgranted : l ∈ ls.filter fun l => !z.claimLost ls l := List.mem_filter.mpr ⟨hl, by simp [hclaim]⟩
        intro hissue
        rw [mayIssue_congr (foldl_issueFirst_self hc _ hgranted z fun _ _ => ⟨rfl, rfl⟩).2, mayIssue_issue] at hissue
        simp at hissue

-- The looks of one event

/-- The lanes that `ls` looks at and whose first candidate is issued at once. -/
def State.grantedAt (s : State) (ls : List LaneIx) : List LaneIx := ls.filter fun l => s.mayIssue l && !s.claimLost ls l

/-- The lanes that `ls` looks at and whose first claim is refused. -/
def State.refusedAt (s : State) (ls : List LaneIx) : List LaneIx := ls.filter fun l => s.mayIssue l && s.claimLost ls l

theorem filter_mayIssue (s : State) (ls : List LaneIx) (p : LaneIx → Bool) :
    (ls.filter s.mayIssue).filter p = ls.filter fun l => s.mayIssue l && p l := by
  rw [List.filter_filter]
  exact List.filter_congr fun l _ => Bool.and_comm _ _

theorem looks_eq (s : State) (ls : List LaneIx) :
    s.looks ls = ((s.grantedAt ls).foldl s.issueFirst s).looks (s.refusedAt ls) := by
  have hmay : ∀ l ∈ ls.filter s.mayIssue, s.mayIssue l = true := mayIssue_of_mem_filter
  have hlost := mayIssue_lost hmay
  have hcard := card_lost (n := 3) hmay (le_trans (Finset.card_le_univ _) (by simp))
  rw [State.looks, lookRounds_succ 3 hmay]
  simp only [claimLost_filter, filter_mayIssue] at hlost hcard ⊢
  rw [← lookRounds_stable 3 _ _ hcard, State.looks]
  congr 1
  exact (List.filter_eq_self.mpr hlost).symm

theorem not_mem_refusedAt {s : State} {ls : List LaneIx} {l : LaneIx} (h : s.claimLost ls l = false) : l ∉ s.refusedAt ls := by
  simp [State.refusedAt, h]

theorem mem_grantedAt {s : State} {ls : List LaneIx} {l : LaneIx} :
    l ∈ s.grantedAt ls ↔ l ∈ ls ∧ s.mayIssue l = true ∧ s.claimLost ls l = false := by
  simp [State.grantedAt]

/-- A lane whose claim is not lost issues its first candidate, and the rest of the looks leaves it so. -/
theorem looks_granted {s : State} {ls : List LaneIx} {l : LaneIx} {c : Candidate} (hl : l ∈ ls) (hmay : s.mayIssue l = true)
    (hc : s.choose l = some c) (hlost : s.claimLost ls l = false) :
    (s.looks ls).record l = (s.issue l c).record l ∧ (s.looks ls).lane l = (s.issue l c).lane l := by
  obtain ⟨hrecord, hlane⟩ := looks_apart (s := (s.grantedAt ls).foldl s.issueFirst s) (not_mem_refusedAt hlost)
  obtain ⟨hrecord', hlane'⟩ :=
    foldl_issueFirst_self hc (s.grantedAt ls) (mem_grantedAt.mpr ⟨hl, hmay, hlost⟩) s fun _ _ => ⟨rfl, rfl⟩
  rw [looks_eq]
  exact ⟨hrecord.trans hrecord', hlane.trans hlane'⟩

/-- No lane of the looks below `l` claims the lock. -/
def State.lowestClaim (s : State) (ls : List LaneIx) (l : LaneIx) (k : LockIx) : Prop :=
  ∀ m ∈ ls, m < l → s.mayIssue m = true → ∀ e, s.choose m = some (.duty e) → s.lockOf e ≠ some k

theorem lowestClaim_firstClaim {s : State} {ls : List LaneIx} {l m : LaneIx} {k : LockIx} (h : s.lowestClaim ls l k)
    (hm : m ∈ ls) (hlt : m < l) (hmay : s.mayIssue m = true) : s.firstClaim m ≠ some k := by
  intro hclaim
  cases hc : s.choose m with
  | none =>
    rw [firstClaim_of_none hc] at hclaim
    cases hclaim
  | some c =>
    rw [firstClaim_of_choose hc] at hclaim
    cases c with
    | exit g => cases hclaim
    | entry g => cases hclaim
    | duty e => exact h m hm hlt hmay e hc hclaim

/-- Of the lanes that claim the lock only the lowest-numbered is granted (R61). -/
theorem claim_of_granted {s : State} {ls : List LaneIx} {l m : LaneIx} {d : DutyIx} {c : Candidate} {k : LockIx} (hl : l ∈ ls)
    (hmay : s.mayIssue l = true) (hc : s.choose l = some (.duty d)) (hlock : s.lockOf d = some k)
    (hlow : s.lowestClaim ls l k) (hm : m ∈ s.grantedAt ls) (hcm : s.choose m = some c) (hclaim : s.claimOf c = some k) :
    c = .duty d := by
  obtain ⟨hmem, hmaym, hgranted⟩ := mem_grantedAt.mp hm
  have hfirst : s.firstClaim m = some k := (firstClaim_of_choose hcm).trans hclaim
  rcases lt_trichotomy m l with hlt | heq | hgt
  · exact absurd hfirst (lowestClaim_firstClaim hlow hmem hlt hmaym)
  · subst heq
    exact Option.some.inj (hcm.symm.trans hc)
  · have hlost := (claimLost_iff s ls m).mpr ⟨k, hfirst, l, hl, hgt, hmay, (firstClaim_of_choose hc).trans hlock⟩
    rw [hgranted] at hlost
    cases hlost

/-- The grants of the first round give the lock to the lowest-numbered lane that claims it. -/
theorem grants_withheld {s : State} {ls : List LaneIx} {l : LaneIx} {d e : DutyIx} {k : LockIx} (hl : l ∈ ls)
    (hmay : s.mayIssue l = true) (hc : s.choose l = some (.duty d)) (hlock : s.lockOf d = some k)
    (hlow : s.lowestClaim ls l k) (hgranted : l ∈ s.grantedAt ls) (hne : e ≠ d) :
    s.withheld k d e ((s.grantedAt ls).foldl s.issueFirst s) := by
  have hclaims (m : LaneIx) (hm : m ∈ s.grantedAt ls) (c : Candidate) (hcm : s.choose m = some c)
      (hclaim : s.claimOf c = some k) : c = .duty d := claim_of_granted hl hmay hc hlock hlow hm hcm hclaim
  obtain ⟨a, b, hsplit⟩ := List.append_of_mem hgranted
  rw [hsplit] at hclaims ⊢
  rw [List.foldl_append, List.foldl_cons, issueFirst_of_choose _ hc]
  have hbefore : s.unissued k e (a.foldl s.issueFirst s) :=
    foldl_issueFirst_kept a (fun x m c hx hm hcm => unissued_issue m hx hne (hclaims m (by simp [hm]) c hcm)) s
      ⟨fun _ => rfl, fun _ => rfl⟩
  refine foldl_issueFirst_kept b (fun x m c hx hm hcm => withheld_issue m hx hne (hclaims m (by simp [hm]) c hcm)) _ ⟨?_, ?_⟩
  · have hclaim : s.claimOf (.duty d) = some k := hlock
    rw [lock_issue_eq, hbefore.1, if_pos hclaim]
  · exact unissued_issue l hbefore hne fun _ => rfl

/-- The lane with the lowest number of those that claim a lock is granted it. -/
theorem claimLost_of_lowest {s : State} {ls : List LaneIx} {l : LaneIx} {d : DutyIx} {k : LockIx}
    (hc : s.choose l = some (.duty d)) (hlock : s.lockOf d = some k) (hlow : s.lowestClaim ls l k) :
    s.claimLost ls l = false := by
  rw [Bool.eq_false_iff, ne_eq, claimLost_iff]
  rintro ⟨j, hj, m, hm, hlt, hmaym, hclaim⟩
  obtain rfl : k = j := Option.some.inj (hlock.symm.trans ((firstClaim_of_choose hc).symm.trans hj))
  exact lowestClaim_firstClaim hlow hm hlt hmaym hclaim

theorem lowestClaim_looks {s : State} {ls : List LaneIx} {l : LaneIx} {d : DutyIx} {k : LockIx} (hl : l ∈ ls)
    (hmay : s.mayIssue l = true) (hc : s.choose l = some (.duty d)) (hlock : s.lockOf d = some k)
    (hlow : s.lowestClaim ls l k) :
    (s.looks ls).lock k = some d ∧ (∃ r, (s.looks ls).record l = some r ∧ r.kind = .duty d) ∧
      ∀ e, s.lockOf e = some k → e ≠ d → (s.looks ls).duty e = s.duty e := by
  have hlost := claimLost_of_lowest hc hlock hlow
  have hgranted : l ∈ s.grantedAt ls := mem_grantedAt.mpr ⟨hl, hmay, hlost⟩
  have hwithheld (e : DutyIx) (hne : e ≠ d) : s.withheld k d e (s.looks ls) := by
    rw [looks_eq]
    exact looks_withheld _ hne (grants_withheld hl hmay hc hlock hlow hgranted hne)
  refine ⟨?_, ⟨s.recordOf (.duty d), ?_, rfl⟩, fun e he hne => (hwithheld e hne).2.2 he⟩
  · obtain ⟨e, hne⟩ := exists_ne d
    exact (hwithheld e hne).1
  · rw [(looks_granted hl hmay hc hlost).1, record_issue, if_pos rfl]

-- The statement

theorem holdsLock_iff (s : State) (d : DutyIx) : s.holdsLock d = true ↔ ∃ k, s.lockOf d = some k ∧ s.lock k = some d := by
  unfold State.holdsLock
  cases s.lockOf d <;> simp

theorem lockReleased_iff (s x : State) : lockReleased s x = true ↔ ∃ k, s.lock k ≠ none ∧ x.lock k = none := by
  simp [lockReleased, allLocks, Option.isSome_iff_ne_none]

/-- Settles O25: the first round decides every claim, and what it grants the later rounds leave. -/
theorem lowestLaneGetsTheLock : Obligations.LowestLaneGetsTheLock := by
  refine ⟨fun s ls l d k hl hmay hc hlock hlow => ?_, fun s d k => lockOf_eq_some_iff s d k, fun s d => holdsLock_iff s d,
    fun s l => ⟨looks_single_of_none s l, fun c hmay hc => looks_single s l hmay c hc⟩,
    fun s ls => ⟨looks_eq s ls, fun l c hl hmay hc hlost => looks_granted hl hmay hc hlost, fun l c hc hnone => ?_,
      fun l hl hmay => ?_⟩,
    fun s x ls => ⟨fun hreleased => ?_, fun hkept => ?_⟩⟩
  · obtain ⟨hheld, hrecord, hothers⟩ := lowestClaim_looks hl hmay hc hlock hlow
    exact ⟨hheld, hrecord, fun m _ _ e _ he hne => hothers e he hne⟩
  · refine claimLost_of_no_claim ls ((firstClaim_of_choose hc).trans ?_)
    rcases hnone with ⟨g, rfl | rfl⟩ | ⟨d, rfl, hgroup⟩
    · rfl
    · rfl
    · refine Option.eq_none_iff_forall_ne_some.mpr fun k hk => ?_
      have := (lockOf_eq_some_iff s d k).mp hk
      omega
  · by_cases hbefore : s.mayIssue l = true
    · exact lookRounds_exhausts 4 _ s mayIssue_of_mem_filter (le_trans (Finset.card_le_univ _) (by simp)) l
        (List.mem_filter.mpr ⟨hl, hbefore⟩) hmay
    · exact absurd hmay (looks_keeps (P := fun x => ¬ x.mayIssue l = true)
        (fun _ x m c _ hx _ _ h => hx (by rw [mayIssue_issue, Bool.and_eq_true] at h; exact h.1)) s hbefore)
  · rw [State.looksAfter, if_pos ((lockReleased_iff s x).mpr hreleased)]
    rfl
  · rw [State.looksAfter, if_neg]
    rw [lockReleased_iff]
    rintro ⟨k, hbefore, hafter⟩
    exact hkept k hbefore hafter

end Sys2Proof.Machine

/-! The step, the queue of commands (log 2), and the rows of events that find nothing to do (log 3, log 5, log 7, log 9, log 16). -/

namespace Sys2Proof.Machine

/-- Settles O1: both are the two arms of the step. -/
theorem stepRunsFrontCommand : Obligations.StepRunsFrontCommand := by
  refine ⟨fun c rest s h => ?_, fun s h => ?_⟩
  · rw [step, h]
  · rw [step, h]

-- The commands that wait

@[simp] theorem pending_writeStaging (s : State) (n : Nat) (v : Word) : (s.writeStaging n v).pending = s.pending := by
  unfold State.writeStaging
  split <;> rfl

@[simp] theorem pending_endQuiet (s : State) (l : LaneIx) : (s.endQuiet l).pending = s.pending := by simp [State.endQuiet]

theorem pending_busWrite (s : State) (reg : BitVec 7) (v : Word) : (s.busWrite reg v).pending = s.pending := by
  unfold State.busWrite
  dsimp only
  split_ifs
  · exact (writeCommand_keeps s _).2.2
  all_goals simp

@[simp] theorem pending_missBoundary (s : State) (d : DutyIx) : (s.missBoundary d).pending = s.pending := by
  unfold State.missBoundary
  dsimp only
  split <;> simp

@[simp] theorem pending_boundaryAt (s : State) (d : DutyIx) (b : Epoch) : (s.boundaryAt d b).pending = s.pending := by
  unfold State.boundaryAt
  dsimp only
  split_ifs <;> simp

@[simp] theorem pending_endWith (s : State) (l : LaneIx) (r : InFlight) (o : Outcome) (good : Bool) :
    (s.endWith l r o good).pending = s.pending := by
  simp [State.endWith]

@[simp] theorem pending_readStatus (s : State) (l : LaneIx) (r : InFlight) (v : Byte) :
    (s.readStatus l r v).pending = s.pending := by
  unfold State.readStatus State.readPending
  split_ifs <;> simp

@[simp] theorem pending_refclkCycle (s : State) : s.refclkCycle.pending = s.pending := by
  unfold State.refclkCycle
  dsimp only
  split <;> simp

/-- No command, no register write and no event stops the block or touches the commands that wait (log 2). -/
theorem pending_exec (c : Instr) (s : State) : ∃ t, exec c s = .next t ∧ t.pending = s.pending := by
  cases c with
  | defineDuty | startDuty | stopDuty | retireDuty | reviveDuty | setOwed | prodDuty | snapshotDuty
  | defineTarget | dropTarget | holdTarget | releaseTarget | snapshotTarget
  | configureLane | openLane | closeLane | blackoutLane | resumeLane | clearSuspect | abort | schedulerReset =>
    exact ⟨_, exec_of_code rfl s, (writeCommand_keeps s _).2.2⟩
  | unknownCode code | commandDiscarded code => exact ⟨_, rfl, (writeCommand_keeps s code).2.2⟩
  | portClear v | incidentPop v | eventSummaryWrite v | eventEnableWrite v | trimValueWrite v | trimWindowWrite v
  | epochLoRead | reset | powerOn => exact ⟨_, rfl, rfl⟩
  | registerWrite reg v => exact ⟨_, rfl, pending_busWrite s reg v⟩
  | refclkCycle => exact ⟨_, rfl, pending_refclkCycle s⟩
  | clockLineRelease l => exact ⟨_, rfl, pending_setLane s l _⟩
  | boundary i | startTime i | stopTime i | backoffEnd i | quietEnd i | blackoutEnd i | autoResume i
  | minimumHoldEnd i | maximumHoldEnd i | settleEnd i | statusRead i v | dataByte i v | checkByte i v
  | addressNotAcknowledged i | requestByteRefused i | tickCompletion | windowStart | partEnd =>
    refine ⟨_, rfl, ?_⟩
    split <;> simp
  | responseDeadline l =>
    refine ⟨_, rfl, ?_⟩
    split
    · split <;> simp
    · rfl
  | clockLineHold l =>
    refine ⟨_, rfl, ?_⟩
    split
    · split <;> simp
    · exact pending_setLane s l _

-- A deadline that is absent or not reached

theorem presentAndReached_of_later {now : Epoch} {deadline : Option Epoch}
    (h : ∀ e, deadline = some e → now.toNat < e.toNat) : ¬presentAndReached now deadline = true := by
  rw [presentAndReached_iff]
  rintro ⟨e, he, hreached⟩
  have := h e he
  omega

section

variable {s : State} {d : DutyIx}

theorem exec_boundary_of_not_due
    (h : s.accrues d = false ∨ ∀ e, (s.duty d).nextBoundary = some e → s.now.toNat < e.toNat) :
    exec (.boundary d) s = .next s := by
  have hdue : s.boundaryDue d = none := by
    rw [State.boundaryDue]
    rcases h with h | h
    · rw [h]
      rfl
    · split
      · refine Option.filter_eq_none_iff.mpr fun e he => ?_
        have := h e he
        simp only [reached, decide_eq_true_eq]
        omega
      · rfl
  show execBoundary d s = _
  rw [execBoundary, hdue]

theorem exec_startTime_of_not_due
    (h : (s.duty d).state ≠ .waiting ∨ (s.targetOf d).holdState.accruing = false ∨
      ∀ e, (s.duty d).defn.startTime = some e → s.now.toNat < e.toNat) : exec (.startTime d) s = .next s := by
  have hdue : ¬s.startTimeDue d = true := by
    rw [startTimeDue_iff]
    rintro ⟨hstate, hreached, haccruing⟩
    rcases h with h | h | h
    · exact h hstate
    · exact Bool.false_ne_true (h.symm.trans haccruing)
    · exact presentAndReached_of_later h hreached
  show execStartTime d s = _
  rw [execStartTime, if_neg hdue]

theorem exec_stopTime_of_not_due
    (h : (s.duty d).state = .vacant ∨ (s.duty d).state = .stopped ∨
      ∀ e, (s.duty d).defn.stopTime = some e → s.now.toNat < e.toNat) : exec (.stopTime d) s = .next s := by
  have hdue : ¬s.stopTimeDue d = true := by
    rw [stopTimeDue_iff]
    rintro ⟨hstate, hreached⟩
    rcases h with h | h | h
    · rw [h] at hstate
      simp at hstate
    · rw [h] at hstate
      simp at hstate
    · exact presentAndReached_of_later h hreached
  show execStopTime d s = _
  rw [execStopTime, if_neg hdue]

theorem exec_backoffEnd_of_not_due (h : ∀ e, (s.duty d).backoffUntil = some e → s.now.toNat < e.toNat) :
    exec (.backoffEnd d) s = .next s := by
  show execBackoffEnd d s = _
  rw [execBackoffEnd, if_neg (presentAndReached_of_later h)]

end

section

variable {s : State} {l : LaneIx}

theorem exec_responseDeadline_of_not_due (h : ∀ r, s.record l = some r → s.now.toNat < r.deadline.toNat) :
    exec (.responseDeadline l) s = .next s := by
  have hdue : s.responseDue l = none := by
    refine Option.filter_eq_none_iff.mpr fun r hr => ?_
    have := h r hr
    simp only [reached, decide_eq_true_eq]
    omega
  show execResponseDeadline l s = _
  rw [execResponseDeadline, hdue]

theorem exec_quietEnd_of_not_due
    (h : (s.lane l).activity ≠ .quiet ∨ ∀ e, (s.lane l).quietEnd = some e → s.now.toNat < e.toNat) :
    exec (.quietEnd l) s = .next s := by
  have hdue : ¬s.quietEndDue l = true := by
    rw [quietEndDue_iff]
    rintro ⟨hquiet, e, he, hreached⟩
    rcases h with h | h
    · exact h hquiet
    · have := h e he
      omega
  show execQuietEnd l s = _
  rw [execQuietEnd, if_neg hdue]

theorem exec_blackoutEnd_of_not_due
    (h : (s.lane l).gate ≠ .blackout ∨ ∀ e, (s.lane l).blackoutEnd = some e → s.now.toNat < e.toNat) :
    exec (.blackoutEnd l) s = .next s := by
  have hdue : ¬s.blackoutEndDue l = true := by
    rw [blackoutEndDue_iff]
    rintro ⟨hblackout, e, he, hreached⟩
    rcases h with h | h
    · exact h hblackout
    · have := h e he
      omega
  show execBlackoutEnd l s = _
  rw [execBlackoutEnd, if_neg hdue]

theorem exec_autoResume_of_not_due
    (h : (s.lane l).gate ≠ .suspect ∨ ∀ e, (s.lane l).recoveryEnd = some e → s.now.toNat < e.toNat) :
    exec (.autoResume l) s = .next s := by
  have hdue : ¬s.recoveryDue l = true := by
    rw [recoveryDue_iff]
    rintro ⟨hsuspect, e, he, hreached⟩
    rcases h with h | h
    · exact h hsuspect
    · have := h e he
      omega
  show execAutoResume l s = _
  rw [execAutoResume, if_neg hdue]

end

/-- A deadline of a target that is not due: another hold state, another kind, or not reached. -/
theorem targetDue_of_not {s : State} {g : TargetIx} {h : HoldState} {k : DeadlineKind}
    (hnot : (s.target g).holdState ≠ h ∨ (s.target g).deadlineKind ≠ k ∨
      ∀ e, (s.target g).deadline = some e → s.now.toNat < e.toNat) : ¬s.targetDue g h k = true := by
  rw [targetDue_iff]
  rintro ⟨hstate, hkind, e, he, hreached⟩
  rcases hnot with hnot | hnot | hnot
  · exact hnot hstate
  · exact hnot hkind
  · have := hnot e he
    omega

-- Frame results that the record does not await

theorem mayReadStatus_iff (r : InFlight) :
    mayReadStatus r = true ↔ r.phase = .request ∨ (r.phase = .wait ∧ r.tickSinceRead = true) := by
  cases h : r.phase <;> simp [mayReadStatus, h]

theorem filter_eq_none_of_false {α : Type} {p : α → Bool} {x : Option α} {a : α} (hx : x = some a ∨ x = none)
    (hp : ¬p a = true) : x.filter p = none := by
  rcases hx with rfl | rfl
  · rw [Option.filter_some, if_neg hp]
  · rfl

theorem movingRecord_of_record {s : State} {l : LaneIx} {r : InFlight} (h : s.record l = some r) :
    s.movingRecord l = some r ∨ s.movingRecord l = none := by
  rw [State.movingRecord, h]
  split
  · exact .inr rfl
  · exact .inl rfl

theorem movingRecord_eq_none {s : State} {l : LaneIx} (h : s.record l = none ∨ (s.lane l).clockHeld = true) :
    s.movingRecord l = none := by
  rw [State.movingRecord]
  split
  · rfl
  · next hfree => exact h.resolve_right hfree

section

variable {s : State} {l : LaneIx} (v : Byte)

theorem exec_statusRead_of_none (h : (s.movingRecord l).filter mayReadStatus = none) :
    exec (.statusRead l v) s = .next s := by
  show execStatusRead l v s = _
  rw [execStatusRead, h]

theorem exec_dataByte_of_none (h : (s.movingRecord l).filter s.awaitsData = none) : exec (.dataByte l v) s = .next s := by
  show execDataByte l v s = _
  rw [execDataByte, h]

theorem exec_checkByte_of_none (h : (s.movingRecord l).filter s.awaitsCheck = none) :
    exec (.checkByte l v) s = .next s := by
  show execCheckByte l v s = _
  rw [execCheckByte, h]

theorem exec_addressNotAcknowledged_of_none (h : (s.movingRecord l).filter (s.lane l).mayMissAddress = none) :
    exec (.addressNotAcknowledged l) s = .next s := by
  show execAddressNotAcknowledged l s = _
  rw [execAddressNotAcknowledged, h]

theorem exec_requestByteRefused_of_none (h : (s.movingRecord l).filter (s.lane l).mayRefuseByte = none) :
    exec (.requestByteRefused l) s = .next s := by
  show execRequestByteRefused l s = _
  rw [execRequestByteRefused, h]

/-- Without a transaction, and with the clock line held, no frame result comes (R71). -/
theorem frameResults_of_not_moving (h : s.record l = none ∨ (s.lane l).clockHeld = true) :
    exec (.statusRead l v) s = .next s ∧ exec (.dataByte l v) s = .next s ∧ exec (.checkByte l v) s = .next s ∧
      exec (.addressNotAcknowledged l) s = .next s ∧ exec (.requestByteRefused l) s = .next s := by
  have hnone (p : InFlight → Bool) : (s.movingRecord l).filter p = none := by rw [movingRecord_eq_none h, Option.filter_none]
  exact ⟨exec_statusRead_of_none v (hnone _), exec_dataByte_of_none v (hnone _), exec_checkByte_of_none v (hnone _),
    exec_addressNotAcknowledged_of_none (hnone _), exec_requestByteRefused_of_none (hnone _)⟩

/-- A frame result that is not the next one of the transaction changes nothing (R72; log 16). -/
theorem frameResults_of_other_phase {r : InFlight} (hr : s.record l = some r) :
    (r.phase = .response ∨ (r.phase = .wait ∧ r.tickSinceRead = false) →
        exec (.statusRead l v) s = .next s ∧ exec (.addressNotAcknowledged l) s = .next s) ∧
      (r.phase ≠ .response ∨ s.expectedData r ≤ r.data.length → exec (.dataByte l v) s = .next s) ∧
      (r.phase ≠ .response ∨ r.data.length < s.expectedData r → exec (.checkByte l v) s = .next s) ∧
      ((s.lane l).mode = .select → exec (.addressNotAcknowledged l) s = .next s) ∧
      ((s.lane l).mode = .select ∨ r.phase ≠ .request → exec (.requestByteRefused l) s = .next s) := by
  have hnone (p : InFlight → Bool) (hp : ¬p r = true) : (s.movingRecord l).filter p = none :=
    filter_eq_none_of_false (movingRecord_of_record hr) hp
  refine ⟨fun h => ?_, fun h => exec_dataByte_of_none v (hnone _ ?_), fun h => exec_checkByte_of_none v (hnone _ ?_),
    fun h => exec_addressNotAcknowledged_of_none (hnone _ ?_), fun h => exec_requestByteRefused_of_none (hnone _ ?_)⟩
  · have hread : ¬mayReadStatus r = true := by
      rw [mayReadStatus_iff]
      rcases h with h | ⟨h, hread⟩
      · simp [h]
      · simp [h, hread]
    refine ⟨exec_statusRead_of_none v (hnone _ hread), exec_addressNotAcknowledged_of_none (hnone _ ?_)⟩
    simp [Lane.mayMissAddress, hread]
  · rw [awaitsData_iff]
    rintro ⟨hphase, hlength⟩
    rcases h with h | h
    · exact h hphase
    · omega
  · rw [awaitsCheck_iff]
    rintro ⟨hphase, hlength⟩
    rcases h with h | h
    · exact h hphase
    · omega
  · simp [Lane.mayMissAddress, h]
  · rcases h with h | h <;> simp [Lane.mayRefuseByte, h]

end

-- The time base

theorem exec_tickCompletion_of_not {s : State} (h : s.time.phase + 1 < s.time.tickLength) :
    exec .tickCompletion s = .next s := by
  have hnot : ¬s.time.completesTick = true := by
    simp only [TimeBase.completesTick, decide_eq_true_eq]
    omega
  show execTickCompletion s = _
  rw [execTickCompletion, if_neg hnot]

theorem exec_windowStart_of_not {s : State} (h : s.time.position + 1 < s.time.windowInForce.cycles) :
    exec .windowStart s = .next s := by
  have hnot : ¬s.time.startsWindow = true := by
    simp only [TimeBase.startsWindow, decide_eq_true_eq]
    omega
  show execWindowStart s = _
  rw [execWindowStart, if_neg hnot]

/-- Settles O2: each event acts only when its condition holds. -/
theorem everyCommandAnswersNext : Obligations.EveryCommandAnswersNext := by
  refine ⟨pending_exec, fun s d => ⟨exec_boundary_of_not_due, exec_startTime_of_not_due, exec_stopTime_of_not_due,
      exec_backoffEnd_of_not_due⟩,
    fun s l => ⟨exec_responseDeadline_of_not_due, exec_quietEnd_of_not_due, exec_blackoutEnd_of_not_due,
      exec_autoResume_of_not_due⟩,
    fun s g => ⟨fun h => ?_, fun h => ?_, fun h => ?_⟩,
    fun s l v h => frameResults_of_not_moving v h, fun s l r v hr => frameResults_of_other_phase v hr,
    fun s => ⟨exec_tickCompletion_of_not, exec_windowStart_of_not, fun h => ?_⟩⟩
  · show execMinimumHoldEnd g s = _
    rw [execMinimumHoldEnd, if_neg (targetDue_of_not h)]
  · show execMaximumHoldEnd g s = _
    rw [execMaximumHoldEnd, if_neg (targetDue_of_not h)]
  · show execSettleEnd g s = _
    rw [execSettleEnd, if_neg (targetDue_of_not h)]
  · show execPartEnd s = _
    rw [execPartEnd, if_neg (by simp [h])]

end Sys2Proof.Machine

/-! Words of the register window: fields side by side (R177), the staging words (O15) and the registers of the incident unit
(O12). -/

namespace Sys2Proof.Machine

-- Fields side by side

/-- The word holds the number, which lies in its lowest bits. -/
def wordHolds (w : Word) (v bits : Nat) : Prop := w.toNat = v ∧ v < 2 ^ bits

theorem toNat_fieldAt (x : Nat) {n : Nat} (hn : n ≤ 16) : (fieldAt x n).toNat = x % 2 ^ (16 - n) * 2 ^ n := by
  have hsplit : 2 ^ 16 = 2 ^ (16 - n) * 2 ^ n := by rw [← pow_add, Nat.sub_add_cancel hn]
  rw [fieldAt, BitVec.toNat_ofNat, hsplit, Nat.mul_mod_mul_right]

theorem flagBit_eq (b : Bool) (n : Nat) : flagBit b n = fieldAt b.toNat n := by
  cases b <;> simp [flagBit, fieldAt]

/-- A word with a field above what it holds. -/
theorem toNat_or_fieldAt {w : Word} {v n : Nat} (x : Nat) (hw : w.toNat = v) (hv : v < 2 ^ n) (hn : n ≤ 16) :
    (w ||| fieldAt x n).toNat = v + x % 2 ^ (16 - n) * 2 ^ n := by
  rw [BitVec.toNat_or, toNat_fieldAt x hn, hw, Nat.or_comm, Nat.mul_comm, ← Nat.two_pow_add_eq_or_of_lt hv, Nat.add_comm]

theorem wordHolds_field {x m : Nat} (hx : x < 2 ^ m) (hm : m ≤ 16) : wordHolds (fieldAt x 0) x m := by
  have hlt : x < 2 ^ 16 := lt_of_lt_of_le hx (Nat.pow_le_pow_right (by decide) hm)
  refine ⟨?_, hx⟩
  rw [toNat_fieldAt x (Nat.zero_le _), Nat.sub_zero, pow_zero, mul_one, Nat.mod_eq_of_lt hlt]

theorem wordHolds_flag (b : Bool) : wordHolds (flagBit b 0) b.toNat 1 := by
  rw [flagBit_eq]
  exact wordHolds_field (by cases b <;> decide) (by decide)

section

variable {w : Word} {v bits : Nat} (h : wordHolds w v bits)
include h

theorem wordHolds_or_field {x m : Nat} (n : Nat) (hx : x < 2 ^ m) (hn : bits ≤ n) (hm : n + m ≤ 16) :
    wordHolds (w ||| fieldAt x n) (v + x * 2 ^ n) (n + m) := by
  obtain ⟨hw, hv⟩ := h
  have hv' : v < 2 ^ n := lt_of_lt_of_le hv (Nat.pow_le_pow_right (by decide) hn)
  have hmod : x % 2 ^ (16 - n) = x :=
    Nat.mod_eq_of_lt (lt_of_lt_of_le hx (Nat.pow_le_pow_right (by decide) (by omega)))
  refine ⟨?_, ?_⟩
  · rw [toNat_or_fieldAt x hw hv' (by omega), hmod]
  · calc v + x * 2 ^ n < (x + 1) * 2 ^ n := by rw [Nat.add_mul, Nat.one_mul, Nat.add_comm]; omega
      _ ≤ 2 ^ m * 2 ^ n := Nat.mul_le_mul_right _ hx
      _ = 2 ^ (n + m) := by rw [← pow_add, Nat.add_comm]

theorem wordHolds_or_flag (b : Bool) (n : Nat) (hn : bits ≤ n) (hm : n < 16) :
    wordHolds (w ||| flagBit b n) (v + b.toNat * 2 ^ n) (n + 1) := by
  rw [flagBit_eq]
  exact wordHolds_or_field h n (by cases b <;> decide) hn hm

/-- A field at the top of a word keeps the bits that the word has room for. -/
theorem toNat_or_topField (x n : Nat) (hn : bits ≤ n) (hm : n ≤ 16) :
    (w ||| fieldAt x n).toNat = v + x % 2 ^ (16 - n) * 2 ^ n :=
  toNat_or_fieldAt x h.1 (lt_of_lt_of_le h.2 (Nat.pow_le_pow_right (by decide) hn)) hm

end

theorem getLsbD_of_digit {w : Word} {k : Nat} {b : Bool} (h : w.toNat / 2 ^ k % 2 = b.toNat) : w.getLsbD k = b := by
  rw [BitVec.getLsbD, Nat.testBit_eq_decide_div_mod_eq, h]
  cases b <;> rfl

theorem toNat_flag (b : Bool) (n : Nat) : b.toNat * n = if b = true then n else 0 := by
  cases b <;> simp

theorem toNat_epochWords (e : Epoch) :
    e.toNat = (epochWord e 0).toNat + 65536 * (epochWord e 1).toNat + 4294967296 * (epochWord e 2).toNat := by
  rw [← epochOfWords_toNat, epochOfWords_epochWord]

theorem toNat_byteWord (bytes : List Byte) (k : Nat) :
    (byteWord bytes k).toNat = (bytes.getD (2 * k) 0).toNat + 256 * (bytes.getD (2 * k + 1) 0).toNat := by
  have hlow := (bytes.getD (2 * k) 0).isLt
  have hhigh := (bytes.getD (2 * k + 1) 0).isLt
  rw [byteWord, BitVec.toNat_ofNat]
  omega

-- The staging words (R165, R177)

theorem toNat_stagingReg (n : Fin 32) : (BitVec.ofNat 7 (8 + n.val)).toNat = 8 + n.val := by
  have := n.isLt
  rw [BitVec.toNat_ofNat]
  omega

theorem busReads_staging (s : State) (n : Fin 32) : s.busReads (BitVec.ofNat 7 (8 + n.val)) = wordAt s.port.staging n.val := by
  have hn := n.isLt
  have hindex : (2 * (8 + n.val) - 16) / 2 = n.val := by omega
  rw [State.busReads, toNat_stagingReg]
  rw [if_neg (by omega), if_pos (by omega), hindex, wordAt]

theorem busWrite_staging (s : State) (n : Fin 32) (v : Word) :
    s.busWrite (BitVec.ofNat 7 (8 + n.val)) v =
      { s with port := { s.port with staging := s.port.staging.set n.val v n.isLt } } := by
  have hn := n.isLt
  have hindex : (2 * (8 + n.val) - 16) / 2 = n.val := by omega
  rw [State.busWrite, toNat_stagingReg]
  dsimp only
  rw [if_neg (by omega), if_neg (by omega), if_pos (by omega), hindex, State.writeStaging, dif_pos hn]

theorem wordAt_set (w : Vector Word 32) (n m : Fin 32) (v : Word) :
    wordAt (w.set n.val v n.isLt) m.val = if m = n then v else wordAt w m.val := by
  by_cases h : m = n
  · subst h
    simp [wordAt]
  · have hne : n.val ≠ m.val := fun e => h (Fin.ext e.symm)
    simp [wordAt, h, hne]

theorem wf_registerWrite (reg : BitVec 7) (v : Word) :
    Instr.wf (.registerWrite reg v) = true ↔ reg.toNat ∉ [0x01, 0x02, 0x47, 0x48, 0x49, 0x53, 0x54] := by
  simp [Instr.wf, ownWriteRows, BitVec.toNat_eq]

/-- Settles O15: the staging words, the writes without a row, and the offsets that read 0. -/
theorem registerWriteStoresStaging : Obligations.RegisterWriteStoresStaging := by
  refine ⟨fun n v s => ⟨_, congrArg Host.Outcome.next (busWrite_staging s n v), fun m => ?_, rfl, rfl⟩,
    fun reg v s hreg hwf => congrArg Host.Outcome.next ?_, fun s reg hreg => ?_⟩
  · rw [busReads_staging, busReads_staging, wordAt_set]
  · rw [wf_registerWrite] at hwf
    simp only [List.mem_cons, List.not_mem_nil, or_false, not_or] at hwf
    rw [State.busWrite]
    iterate 8 rw [if_neg (by omega)]
  · rw [State.busReads]
    iterate 16 rw [if_neg (by omega)]

-- The registers of the incident unit

theorem causes_toWord (c : Causes) :
    c.toWord.toNat = (if c.incident = true then 1 else 0) + (if c.overflow = true then 2 else 0) +
      (if c.command = true then 4 else 0) + (if c.lane = true then 8 else 0) + (if c.hold = true then 16 else 0) := by
  have h := wordHolds_flag c.incident
  have h := wordHolds_or_flag h c.overflow 1 (by decide) (by decide)
  have h := wordHolds_or_flag h c.command 2 (by decide) (by decide)
  have h := wordHolds_or_flag h c.lane 3 (by decide) (by decide)
  have h := wordHolds_or_flag h c.hold 4 (by decide) (by decide)
  rw [Causes.toWord, h.1]
  simp only [← toNat_flag]
  omega

theorem getLsbD_flagBit (b : Bool) {n i : Nat} (hi : i < 16) : (flagBit b n).getLsbD i = (b && decide (n = i)) := by
  cases b with
  | false => simp [flagBit]
  | true => rw [flagBit, if_pos rfl, BitVec.getLsbD_ofNat, Nat.testBit_two_pow, decide_eq_true hi]

theorem toWord_ofWord (v : Word) : (Causes.ofWord v).toWord = v &&& 0x001F := by
  refine BitVec.eq_of_getLsbD_eq fun i hi => ?_
  simp only [Causes.toWord, Causes.ofWord, BitVec.getLsbD_or, BitVec.getLsbD_and, getLsbD_flagBit _ hi]
  interval_cases i <;> simp

/-- The number of word 0 of the incident window (Table 10-7). -/
theorem toNat_incidentWord_zero (i : Incident) :
    (incidentWord i 0).toNat = i.kind.code + ((i.reason.map Reason.code).getD 0) * 16 + i.lane.val * 256 +
      i.duty.isSome.toNat * 1024 + i.status.isSome.toNat * 2048 + i.data.isSome.toNat * 4096 +
      i.attempt.getD 0 % 8 * 8192 := by
  have hkind : i.kind.code < 2 ^ 3 := by cases i.kind <;> decide
  have hreason : (i.reason.map Reason.code).getD 0 < 2 ^ 3 := by
    cases i.reason with
    | none => decide
    | some why => cases why <;> decide
  have h := wordHolds_field hkind (by decide)
  have h := wordHolds_or_field h 4 hreason (by decide) (by decide)
  have h := wordHolds_or_field h 8 (m := 2) i.lane.isLt (by decide) (by decide)
  have h := wordHolds_or_flag h i.duty.isSome 10 (by decide) (by decide)
  have h := wordHolds_or_flag h i.status.isSome 11 (by decide) (by decide)
  have h := wordHolds_or_flag h i.data.isSome 12 (by decide) (by decide)
  exact toNat_or_topField h (i.attempt.getD 0) 13 (by decide) (by decide)

theorem busReads_incidentWindow {s : State} {i : Incident} {rest : List Incident} (hqueue : s.inc.queue = i :: rest) {k : Nat}
    (hk : k < 14) : s.busReads (BitVec.ofNat 7 (0x38 + k)) = incidentWord i k := by
  have hread : s.busReads (BitVec.ofNat 7 (0x38 + k)) = s.incidentWindow k := by
    interval_cases k <;> rfl
  rw [hread, State.incidentWindow, hqueue]

theorem windowShows_head {s : State} {i : Incident} {rest : List Incident} (hqueue : s.inc.queue = i :: rest) :
    s.windowShows i := by
  have hword (k : Nat) (hk : k < 14) : s.busReads (BitVec.ofNat 7 (0x38 + k)) = incidentWord i k :=
    busReads_incidentWindow hqueue hk
  have hzero := toNat_incidentWord_zero i
  have hlane := i.lane.isLt
  have hkind : i.kind.code < 8 := by cases i.kind <;> decide
  have hreason : (i.reason.map Reason.code).getD 0 < 8 := by
    cases i.reason with
    | none => decide
    | some why => cases why <;> decide
  have hflags := And.intro (Bool.toNat_le i.duty.isSome) (And.intro (Bool.toNat_le i.status.isSome) (Bool.toNat_le i.data.isSome))
  have h0 : s.busReads 0x38 = incidentWord i 0 := hword 0 (by decide)
  refine ⟨?_, hword 1 (by decide), ?_, ?_, ?_, fun k hk => ?_, hword 11 (by decide), hword 12 (by decide), hword 13 (by decide)⟩
  · rw [h0]
    refine ⟨by omega, by omega, getLsbD_of_digit (b := false) ?_, by omega, getLsbD_of_digit ?_, getLsbD_of_digit ?_,
      getLsbD_of_digit ?_, by omega⟩
    · rw [Bool.toNat_false]
      omega
    · omega
    · omega
    · omega
  · have h2 : s.busReads 0x3A = epochWord i.epoch 0 := hword 2 (by decide)
    have h3 : s.busReads 0x3B = epochWord i.epoch 1 := hword 3 (by decide)
    have h4 : s.busReads 0x3C = epochWord i.epoch 2 := hword 4 (by decide)
    rw [h2, h3, h4, ← toNat_epochWords]
  · have h5 : s.busReads 0x3D = fieldAt i.target.val 0 ||| fieldAt ((i.duty.map Fin.val).getD 0) 8 := hword 5 (by decide)
    have hduty : (i.duty.map Fin.val).getD 0 < 2 ^ 8 := by
      cases hd : i.duty with
      | none => decide
      | some d =>
        have := d.isLt
        simp only [Option.map_some, Option.getD_some]
        omega
    have h := wordHolds_field (m := 8) (lt_trans i.target.isLt (by decide)) (by decide)
    rw [h5, (wordHolds_or_field h 8 hduty (by decide) (by decide)).1]
    omega
  · have h6 : s.busReads 0x3E = fieldAt ((i.status.getD 0).toNat) 0 ||| fieldAt ((i.data.getD []).length) 8 :=
      hword 6 (by decide)
    have h := wordHolds_field (m := 8) (i.status.getD 0).isLt (by decide)
    rw [h6, toNat_or_topField h _ 8 (by decide) (by decide)]
    omega
  · have hk' : s.busReads (BitVec.ofNat 7 (0x3F + k)) = byteWord (i.data.getD []) k := by
      interval_cases k
      · exact hword 7 (by decide)
      · exact hword 8 (by decide)
      · exact hword 9 (by decide)
      · exact hword 10 (by decide)
    rw [hk', toNat_byteWord]

theorem anyEnabled_iff (a b : Causes) :
    anyEnabled a b = true ↔
      (a.incident = true ∧ b.incident = true) ∨ (a.overflow = true ∧ b.overflow = true) ∨
        (a.command = true ∧ b.command = true) ∨ (a.lane = true ∧ b.lane = true) ∨ (a.hold = true ∧ b.hold = true) := by
  simp [anyEnabled, or_assoc]

theorem hasPassed_pass (u : IncidentUnit) (i : Incident) : u.hasPassed (u.pass i) i := by
  refine ⟨rfl, rfl, rfl, fun hroom => ?_, fun hfull => ?_⟩
  · have hstored : u.queue.length < Config.queueCapacity := hroom
    simp [IncidentUnit.pass, IncidentUnit.follow, hstored]
  · have hdropped : ¬u.queue.length < Config.queueCapacity := Nat.not_lt.mpr hfull
    have hnonempty : u.queue ≠ [] := by
      rintro h
      simp [h] at hfull
    simp [IncidentUnit.pass, IncidentUnit.follow, hdropped, hnonempty]

/-- The INCIDENT cause after INCIDENT_POP (R156, R157). -/
theorem isEmpty_tail {α : Type} (xs : List α) : (!xs.tail.isEmpty) = decide (1 < xs.length) := by
  match xs with
  | [] => rfl
  | [x] => rfl
  | x :: y :: rest => simp

/-- Settles O12: each register of the incident unit, and the head record word by word. -/
theorem incidentRegisterWrites : Obligations.IncidentRegisterWrites := by
  refine ⟨fun v s => ⟨s.popIncident, rfl, (List.drop_one).symm, rfl, rfl, ?_, rfl, rfl⟩,
    fun v s => ⟨s.writeSummary v, rfl, rfl, rfl, rfl, rfl, rfl, rfl, rfl, rfl, rfl, rfl⟩,
    fun v s => ⟨s.writeEnable v, rfl, rfl, rfl, rfl, toWord_ofWord v, rfl, rfl⟩,
    fun s => causes_toWord s.inc.summary, fun s hlength => ?_, fun s i rest hqueue => windowShows_head hqueue,
    fun s hqueue k hk => ?_, rfl, rfl, hasPassed_pass,
    fun u => ⟨⟨rfl, rfl, rfl, rfl, rfl⟩, ⟨rfl, rfl, rfl, rfl, rfl⟩, ⟨rfl, rfl, rfl, rfl, rfl⟩⟩, anyEnabled_iff⟩
  · exact congrArg (fun b => { s.inc.summary with incident := b }) (isEmpty_tail s.inc.queue)
  · show (fieldAt s.inc.queue.length 0).toNat = _
    exact (wordHolds_field (m := 5) (lt_of_le_of_lt hlength (by decide)) (by decide)).1
  · have hread : s.busReads (BitVec.ofNat 7 (0x38 + k)) = s.incidentWindow k := by
      interval_cases k <;> rfl
    rw [hread, State.incidentWindow, hqueue]

end Sys2Proof.Machine

/-! RESET and power-on (O10), and SCHEDULER RESET with the STRANDED incidents that it passes (O9). -/

namespace Sys2Proof.Machine

-- RESET and power-on

/-- Settles O10: RESET's values, and the time base of each. -/
theorem resetsSetEveryBlock : Obligations.ResetsSetEveryBlock := by
  intro s
  refine ⟨s.resetPin, { s.resetPin with time := {}, busRead := 0 }, rfl, rfl, fun v hv => ?_, rfl, rfl, rfl, rfl, rfl⟩
  rcases hv with rfl | rfl
  · exact ⟨duty_resetPin s, target_resetPin s, lane_resetPin s, list_resetPin s, lock_resetPin s, record_resetPin s, rfl, rfl⟩
  · exact ⟨duty_resetPin s, target_resetPin s, lane_resetPin s, list_resetPin s, lock_resetPin s, record_resetPin s, rfl, rfl⟩

-- A row of incidents passed with the HOLD cause (R114, R162)

/-- The incidents passed in order, each followed by the HOLD cause. -/
def IncidentUnit.passHolds (u : IncidentUnit) (incidents : List Incident) : IncidentUnit :=
  incidents.foldl (fun v i => (v.pass i).setHold) u

section

variable (u : IncidentUnit)

theorem passHolds_cons (i : Incident) (rest : List Incident) :
    u.passHolds (i :: rest) = ((u.pass i).setHold).passHolds rest := rfl

theorem passHolds_kept (incidents : List Incident) :
    (u.passHolds incidents).enable = u.enable ∧ (u.passHolds incidents).summary.lane = u.summary.lane ∧
      (u.passHolds incidents).summary.command = u.summary.command := by
  induction incidents generalizing u with
  | nil => exact ⟨rfl, rfl, rfl⟩
  | cons i rest ih =>
    obtain ⟨henable, hlane, hcommand⟩ := ih (u.pass i).setHold
    rw [passHolds_cons, henable, hlane, hcommand]
    unfold IncidentUnit.pass IncidentUnit.setHold IncidentUnit.follow
    dsimp only
    refine ⟨rfl, ?_, ?_⟩
    · split <;> rfl
    · split <;> rfl

theorem passHolds_hold (incidents : List Incident) :
    (u.passHolds incidents).summary.hold = (u.summary.hold || !incidents.isEmpty) := by
  induction incidents generalizing u with
  | nil => simp [IncidentUnit.passHolds]
  | cons i rest ih =>
    rw [passHolds_cons, ih]
    simp [IncidentUnit.setHold, IncidentUnit.follow]

theorem sequence_pass_setHold (i : Incident) : (u.pass i).setHold.sequence = u.sequence + 1 := rfl

theorem add_one_add_ofNat (w : Word) (k : Nat) : w + 1 + BitVec.ofNat 16 k = w + BitVec.ofNat 16 (k + 1) := by
  rw [BitVec.add_assoc, BitVec.add_comm 1, BitVec.ofNat_add]
  rfl

theorem passHolds_sequence (incidents : List Incident) :
    (u.passHolds incidents).sequence = u.sequence + BitVec.ofNat 16 incidents.length := by
  induction incidents generalizing u with
  | nil => simp [IncidentUnit.passHolds]
  | cons i rest ih => rw [passHolds_cons, ih, sequence_pass_setHold, List.length_cons, add_one_add_ofNat]

theorem isEmpty_queue_pass (i : Incident) : (u.pass i).setHold.queue.isEmpty = false := by
  show (if decide (u.queue.length < Config.queueCapacity) = true then _ else u.queue).isEmpty = false
  split
  · simp
  · next hfull =>
    rw [decide_eq_true_eq] at hfull
    cases hqueue : u.queue with
    | nil => simp [hqueue, Config.queueCapacity] at hfull
    | cons j rest => rfl

theorem passHolds_incident (incidents : List Incident) (h : u.summary.incident = !u.queue.isEmpty) :
    (u.passHolds incidents).summary.incident = !(u.passHolds incidents).queue.isEmpty := by
  induction incidents generalizing u with
  | nil => exact h
  | cons i rest ih => exact ih _ rfl

theorem passHolds_isEmpty (incidents : List Incident) :
    (u.passHolds incidents).queue.isEmpty = (u.queue.isEmpty && incidents.isEmpty) := by
  induction incidents generalizing u with
  | nil => simp [IncidentUnit.passHolds]
  | cons i rest ih => rw [passHolds_cons, ih, isEmpty_queue_pass, Bool.false_and, List.isEmpty_cons, Bool.and_false]

/-- What the queue has room for is stored, in order and numbered from the sequence counter (R152, R153). -/
theorem passHolds_stored (incidents : List Incident) (h : u.queue.length + incidents.length ≤ 16) :
    (u.passHolds incidents).summary.overflow = u.summary.overflow ∧
      (u.passHolds incidents).queue.map (fun i => { i with sequence := 0 }) =
        (u.queue ++ incidents).map (fun i => { i with sequence := 0 }) ∧
      (u.passHolds incidents).queue.map (·.sequence) =
        u.queue.map (·.sequence) ++ (List.range incidents.length).map fun k => u.sequence + BitVec.ofNat 16 k := by
  induction incidents generalizing u with
  | nil => simp [IncidentUnit.passHolds]
  | cons i rest ih =>
    rw [List.length_cons] at h
    have hroom : u.queue.length < Config.queueCapacity := by
      show _ < 16
      omega
    have hqueue : (u.pass i).setHold.queue = u.queue ++ [{ i with sequence := u.sequence }] := by
      simp [IncidentUnit.setHold, IncidentUnit.follow, IncidentUnit.pass, hroom]
    have hoverflow : (u.pass i).setHold.summary.overflow = u.summary.overflow := by
      simp [IncidentUnit.setHold, IncidentUnit.follow, IncidentUnit.pass, hroom]
    obtain ⟨hover, hrecords, hnumbers⟩ := ih (u.pass i).setHold (by rw [hqueue, List.length_append, List.length_singleton]; omega)
    rw [passHolds_cons, hover, hrecords, hnumbers, hqueue, sequence_pass_setHold]
    refine ⟨hoverflow, by simp, ?_⟩
    rw [List.length_cons, List.range_succ_eq_map, List.map_cons, List.map_map, List.map_append, List.append_assoc]
    refine congrArg (u.queue.map (·.sequence) ++ ·) ?_
    simp only [Function.comp_def, Nat.succ_eq_add_one, add_one_add_ofNat]
    simp

end

-- SCHEDULER RESET

theorem abandonedIncident_congr {s x : State} {g : TargetIx} (hnow : x.now = s.now)
    (hdefn : (x.target g).defn = (s.target g).defn) (hattempts : (x.target g).holdAttempts = (s.target g).holdAttempts) :
    abandonedIncident x g = abandonedIncident s g := by
  rw [abandonedIncident, abandonedIncident, hnow, hdefn, hattempts]

theorem inc_recordStranded (s : State) (ts : List TargetIx) :
    (s.recordStranded ts).inc = s.inc.passHolds (ts.map (abandonedIncident s)) := by
  suffices h : ∀ x : State, x.now = s.now → (∀ g, x.target g = s.target g) →
      (x.recordStranded ts).inc = x.inc.passHolds (ts.map (abandonedIncident s)) from h s rfl fun _ => rfl
  induction ts with
  | nil => exact fun x _ _ => rfl
  | cons t rest ih =>
    intro x hnow htarget
    have hsame : abandonedIncident x t = abandonedIncident s t :=
      abandonedIncident_congr hnow (by rw [htarget]) (by rw [htarget])
    have hrest := ih ((x.passIncident (abandonedIncident x t)).setHoldCause) (by simpa using hnow) (by simpa using htarget)
    show ((((x.passIncident (abandonedIncident x t)).setHoldCause).recordStranded rest).inc) = _
    rw [hrest, hsame]
    rfl

/-- The targets by Table 5-5. -/
theorem schedulerResetTarget_cases (x : Target) :
    (x.holdTransaction = .entryInFlight ∨ x.holdTransaction = .exitInFlight →
      schedulerResetTarget x =
        { x with
          holdState := .stranded, holdTransaction := .none, releasePending := false, deadlineKind := .none
          deadline := none }) ∧
    (x.holdTransaction = .entryPending → x.holdState = .entering →
      schedulerResetTarget x =
        { x with holdState := .active, holdTransaction := .none, holdAttempts := 0, releasePending := false }) ∧
    (x.holdTransaction = .none ∨ x.holdTransaction = .exitPending → x.holdState ≠ .entering →
      schedulerResetTarget x = { x with releasePending := false }) := by
  refine ⟨fun h => ?_, fun htxn hstate => ?_, fun h hstate => ?_⟩
  · have hflight : x.holdInFlight = true := by simpa [Target.holdInFlight] using h
    rw [schedulerResetTarget, if_pos hflight]
    rfl
  · have hflight : ¬x.holdInFlight = true := by simp [Target.holdInFlight, htxn]
    rw [schedulerResetTarget, if_neg hflight, if_pos hstate]
  · have hflight : ¬x.holdInFlight = true := by rcases h with h | h <;> simp [Target.holdInFlight, h]
    rw [schedulerResetTarget, if_neg hflight, if_neg hstate]

@[simp] theorem inc_resetBlocks (s : State) : s.resetBlocks.inc = s.inc := by
  unfold State.resetBlocks State.resetLanes State.resetTargets
  rw [foldl_keeps State.inc _ (by simp), foldl_keeps State.inc _ (by simp)]
  rfl

@[simp] theorem now_resetBlocks (s : State) : s.resetBlocks.now = s.now := by
  unfold State.resetBlocks State.resetLanes State.resetTargets
  rw [foldl_keeps State.now _ (by simp), foldl_keeps State.now _ (by simp)]
  rfl

theorem abandonedIncident_withInc (s : State) (u : IncidentUnit) (g : TargetIx) :
    abandonedIncident (s.withInc u) g = abandonedIncident s g := rfl

theorem abandonedIncident_latch (s : State) (code : Byte) (g : TargetIx) :
    abandonedIncident (s.latch code) g = abandonedIncident s g := rfl

theorem abandonedIncident_resetBlocks {s : State} {g : TargetIx} (h : (s.target g).holdInFlight = true) :
    abandonedIncident s.resetBlocks g = abandonedIncident s g := by
  have hflight : (s.target g).holdTransaction = .entryInFlight ∨ (s.target g).holdTransaction = .exitInFlight := by
    simpa [Target.holdInFlight] using h
  refine abandonedIncident_congr (now_resetBlocks s) ?_ ?_ <;>
    rw [target_resetBlocks, (schedulerResetTarget_cases _).1 hflight]

/-- The incidents of a reset are those of the targets as they were before it (R114). -/
theorem inc_schedulerReset (s : State) :
    s.schedulerReset.inc =
      (s.inc.schedulerReset.passHolds (s.holdsInFlight.map (abandonedIncident s))).setCommand := by
  have hincidents : s.holdsInFlight.map
      (abandonedIncident ((s.latch 0x31).resetBlocks.withInc (s.latch 0x31).resetBlocks.inc.schedulerReset)) =
        s.holdsInFlight.map (abandonedIncident s) := by
    refine List.map_congr_left fun g hg => ?_
    have hflight : ((s.latch 0x31).target g).holdInFlight = true := (List.mem_filter.mp hg).2
    rw [abandonedIncident_withInc, abandonedIncident_resetBlocks hflight, abandonedIncident_latch]
  rw [schedulerReset_eq, inc_recordResult, inc_recordStranded, hincidents, inc_withInc, inc_resetBlocks, inc_latch]

/-- Settles O9: the blocks as SCHEDULER RESET sets them, and the STRANDED incidents in an emptied queue. -/
theorem schedulerResetEmptiesTheSchedule : Obligations.SchedulerResetEmptiesTheSchedule := by
  intro s
  obtain ⟨htime, hbus, _⟩ := schedulerReset_keeps s
  have hempty : s.inc.schedulerReset.queue = [] := rfl
  obtain ⟨henable, hlane, _⟩ := passHolds_kept s.inc.schedulerReset (s.holdsInFlight.map (abandonedIncident s))
  refine ⟨s.schedulerReset, rfl, duty_schedulerReset s, list_schedulerReset s, lock_schedulerReset s, record_schedulerReset s,
    fun g h => ?_, fun g htxn hstate => ?_, fun g h hstate => ?_, lane_schedulerReset s, htime, hbus, port_schedulerReset s,
    ?_, ?_, ?_, ?_, ?_, ?_, fun hlength => ?_, rfl⟩
  · rw [target_schedulerReset, (schedulerResetTarget_cases _).1 h]
  · rw [target_schedulerReset, (schedulerResetTarget_cases _).2.1 htxn hstate]
  · rw [target_schedulerReset, (schedulerResetTarget_cases _).2.2 h hstate]
  · rw [inc_schedulerReset]
    exact henable
  · rw [inc_schedulerReset]
    exact hlane
  · rw [inc_schedulerReset]
    rfl
  · rw [inc_schedulerReset]
    refine (passHolds_hold _ _).trans ?_
    rw [List.isEmpty_map]
    rfl
  · rw [inc_schedulerReset]
    refine (passHolds_sequence _ _).trans ?_
    rw [List.length_map]
    exact BitVec.zero_add _
  · rw [inc_schedulerReset]
    show (!(IncidentUnit.passHolds _ _).queue.isEmpty) = _
    rw [passHolds_isEmpty, hempty, List.isEmpty_map]
    rfl
  · obtain ⟨hover, hrecords, hnumbers⟩ :=
      passHolds_stored s.inc.schedulerReset (s.holdsInFlight.map (abandonedIncident s)) (by simpa [hempty] using hlength)
    rw [inc_schedulerReset]
    refine ⟨hover, hrecords.trans ?_, hnumbers.trans ?_⟩
    · rw [hempty, List.nil_append, List.map_map]
      rfl
    · rw [hempty, List.length_map]
      exact List.map_congr_left fun k _ => BitVec.zero_add _

end Sys2Proof.Machine

/-! The command port as the host sees it (O4): what taking a code in READY does, and the codes of Table 10-3. -/

namespace Sys2Proof.Machine

-- What no owner's answer changes of the port (R164, R165)

/-- The port shows the code taken, with its parameters and the Collision as they stood. -/
def Port.sameCode (p q : Port) : Prop :=
  q.latched = p.latched ∧ q.staging = p.staging ∧ q.code = p.code ∧ q.collision = p.collision

theorem port_takeOutcome_sameCode (s : State) (l : LaneIx) (r : InFlight) (o : Outcome) (good : Bool) :
    s.port.sameCode (s.takeOutcome l r o good).port := by
  unfold State.takeOutcome State.completeRetire
  split
  · split
    · simp [Port.sameCode]
    · simp [Port.sameCode]
  · simp [Port.sameCode]
  · simp [Port.sameCode]

theorem port_closeLane_sameCode (s : State) (l : LaneIx) : s.port.sameCode (s.closeLane l).port := by
  unfold State.closeLane
  dsimp only
  split
  · simp [Port.sameCode]
  · simpa using port_takeOutcome_sameCode s l _ .abandoned false

section

variable {s : State} (hready : s.port.state = .ready)
include hready

theorem holds_sameCode_of_port {t : State} (h : t.port = s.port) : (Answer.done t).Holds fun t => s.port.sameCode t.port := by
  refine ⟨?_, ?_⟩
  · show s.port.sameCode t.port
    rw [h]
    exact ⟨rfl, rfl, rfl, rfl⟩
  · rw [h, hready]

theorem answerDefineDuty_sameCode : (answerDefineDuty s).Holds fun t => s.port.sameCode t.port :=
  Answer.holds_withDuty fun _ _ => Answer.holds_checked fun _ => holds_sameCode_of_port hready (by simp)

theorem answerStartDuty_sameCode : (answerStartDuty s).Holds fun t => s.port.sameCode t.port := by
  refine Answer.holds_withDuty fun _ _ => Answer.holds_checked fun _ => holds_sameCode_of_port hready ?_
  rw [port_looksAfter]
  split <;> simp

theorem answerStopDuty_sameCode : (answerStopDuty s).Holds fun t => s.port.sameCode t.port :=
  Answer.holds_withDuty fun _ _ => Answer.holds_checked fun _ => holds_sameCode_of_port hready (by simp)

theorem answerRetireDuty_sameCode : (answerRetireDuty s).Holds fun t => s.port.sameCode t.port := by
  refine Answer.holds_withDuty fun _ _ => Answer.holds_checked fun _ => ?_
  split
  · dsimp only [Answer.Holds]
    split <;> simp [Port.sameCode]
  · exact holds_sameCode_of_port hready (by simp)

theorem answerReviveDuty_sameCode : (answerReviveDuty s).Holds fun t => s.port.sameCode t.port :=
  Answer.holds_withDuty fun _ _ => Answer.holds_checked fun _ => holds_sameCode_of_port hready (by simp)

theorem answerSetOwed_sameCode : (answerSetOwed s).Holds fun t => s.port.sameCode t.port :=
  Answer.holds_withDuty fun _ _ => Answer.holds_checked fun _ => holds_sameCode_of_port hready (by simp)

theorem answerProdDuty_sameCode : (answerProdDuty s).Holds fun t => s.port.sameCode t.port := by
  refine Answer.holds_withDuty fun _ _ => Answer.holds_checked fun _ => ?_
  split
  · exact holds_sameCode_of_port hready rfl
  · exact holds_sameCode_of_port hready (by simp)

theorem answerSnapshotDuty_sameCode : (answerSnapshotDuty s).Holds fun t => s.port.sameCode t.port := by
  refine Answer.holds_withDuty fun _ _ => ?_
  dsimp only [Answer.Holds]
  split
  · exact ⟨⟨rfl, rfl, rfl, rfl⟩, hready⟩
  · exact ⟨⟨rfl, rfl, rfl, rfl⟩, hready⟩

theorem answerDefineTarget_sameCode : (answerDefineTarget s).Holds fun t => s.port.sameCode t.port :=
  Answer.holds_withTarget fun _ => Answer.holds_checked fun _ => holds_sameCode_of_port hready (by simp)

theorem answerDropTarget_sameCode : (answerDropTarget s).Holds fun t => s.port.sameCode t.port :=
  Answer.holds_withTarget fun _ => Answer.holds_checked fun _ => holds_sameCode_of_port hready (by simp)

theorem answerHoldTarget_sameCode : (answerHoldTarget s).Holds fun t => s.port.sameCode t.port :=
  Answer.holds_withTarget fun _ => Answer.holds_checked fun _ => holds_sameCode_of_port hready (by simp)

theorem answerReleaseTarget_sameCode : (answerReleaseTarget s).Holds fun t => s.port.sameCode t.port :=
  Answer.holds_withTarget fun _ => Answer.holds_checked fun _ => holds_sameCode_of_port hready (by simp)

theorem answerSnapshotTarget_sameCode : (answerSnapshotTarget s).Holds fun t => s.port.sameCode t.port :=
  Answer.holds_withTarget fun _ => ⟨⟨rfl, rfl, rfl, rfl⟩, hready⟩

theorem answerConfigureLane_sameCode : (answerConfigureLane s).Holds fun t => s.port.sameCode t.port := by
  unfold answerConfigureLane
  exact Answer.holds_withLane fun _ => Answer.holds_checked fun _ => holds_sameCode_of_port hready (by simp)

theorem answerOpenLane_sameCode : (answerOpenLane s).Holds fun t => s.port.sameCode t.port :=
  Answer.holds_withLane fun _ => Answer.holds_checked fun _ => holds_sameCode_of_port hready (by simp)

theorem answerCloseLane_sameCode : (answerCloseLane s).Holds fun t => s.port.sameCode t.port := by
  refine Answer.holds_withLane fun l => ⟨?_, ?_⟩
  · show s.port.sameCode ((s.closeLane l).looksAfter s []).port
    rw [port_looksAfter]
    exact port_closeLane_sameCode s l
  · rw [port_looksAfter, portState_closeLane l hready]

theorem answerBlackoutLane_sameCode : (answerBlackoutLane s).Holds fun t => s.port.sameCode t.port :=
  Answer.holds_withLane fun _ => Answer.holds_checked fun _ => holds_sameCode_of_port hready (by simp)

theorem answerResumeLane_sameCode : (answerResumeLane s).Holds fun t => s.port.sameCode t.port :=
  Answer.holds_withLane fun _ => Answer.holds_checked fun _ => holds_sameCode_of_port hready (by simp)

theorem answerClearSuspect_sameCode : (answerClearSuspect s).Holds fun t => s.port.sameCode t.port :=
  Answer.holds_withLane fun _ => Answer.holds_checked fun _ => holds_sameCode_of_port hready (by simp)

end

/-- A code other than ABORT and SCHEDULER RESET is passed to an owner, whose answer leaves the code in the port (R164). -/
theorem exists_owner {c : Instr} {code : Byte} (hcode : codeOf c = some code) (habort : c ≠ .abort) (hreset : c ≠ .schedulerReset) :
    ∃ owner : State → Answer, (∀ s, exec c s = .next (s.command code owner)) ∧
      ∀ s : State, s.port.state = .ready → (owner s).Holds fun t => s.port.sameCode t.port := by
  cases c with
  | defineDuty => cases hcode; exact ⟨_, fun _ => rfl, fun _ => answerDefineDuty_sameCode⟩
  | startDuty => cases hcode; exact ⟨_, fun _ => rfl, fun _ => answerStartDuty_sameCode⟩
  | stopDuty => cases hcode; exact ⟨_, fun _ => rfl, fun _ => answerStopDuty_sameCode⟩
  | retireDuty => cases hcode; exact ⟨_, fun _ => rfl, fun _ => answerRetireDuty_sameCode⟩
  | reviveDuty => cases hcode; exact ⟨_, fun _ => rfl, fun _ => answerReviveDuty_sameCode⟩
  | setOwed => cases hcode; exact ⟨_, fun _ => rfl, fun _ => answerSetOwed_sameCode⟩
  | prodDuty => cases hcode; exact ⟨_, fun _ => rfl, fun _ => answerProdDuty_sameCode⟩
  | snapshotDuty => cases hcode; exact ⟨_, fun _ => rfl, fun _ => answerSnapshotDuty_sameCode⟩
  | defineTarget => cases hcode; exact ⟨_, fun _ => rfl, fun _ => answerDefineTarget_sameCode⟩
  | dropTarget => cases hcode; exact ⟨_, fun _ => rfl, fun _ => answerDropTarget_sameCode⟩
  | holdTarget => cases hcode; exact ⟨_, fun _ => rfl, fun _ => answerHoldTarget_sameCode⟩
  | releaseTarget => cases hcode; exact ⟨_, fun _ => rfl, fun _ => answerReleaseTarget_sameCode⟩
  | snapshotTarget => cases hcode; exact ⟨_, fun _ => rfl, fun _ => answerSnapshotTarget_sameCode⟩
  | configureLane => cases hcode; exact ⟨_, fun _ => rfl, fun _ => answerConfigureLane_sameCode⟩
  | openLane => cases hcode; exact ⟨_, fun _ => rfl, fun _ => answerOpenLane_sameCode⟩
  | closeLane => cases hcode; exact ⟨_, fun _ => rfl, fun _ => answerCloseLane_sameCode⟩
  | blackoutLane => cases hcode; exact ⟨_, fun _ => rfl, fun _ => answerBlackoutLane_sameCode⟩
  | resumeLane => cases hcode; exact ⟨_, fun _ => rfl, fun _ => answerResumeLane_sameCode⟩
  | clearSuspect => cases hcode; exact ⟨_, fun _ => rfl, fun _ => answerClearSuspect_sameCode⟩
  | abort => exact absurd rfl habort
  | schedulerReset => exact absurd rfl hreset
  | _ => cases hcode

theorem port_command_of_ready {s : State} {code : Byte} {owner : State → Answer} (hready : s.port.state = .ready)
    (howner : (owner (s.latch code)).Holds fun t => (s.latch code).port.sameCode t.port) :
    (s.latch code).port.sameCode (s.command code owner).port := by
  rw [command_of_ready hready]
  revert howner
  cases owner (s.latch code) with
  | done t => exact fun h => h.1
  | refused why => exact fun _ => ⟨rfl, rfl, rfl, rfl⟩
  | waits t => exact id

/-- A code taken in READY is shown with the parameters latched (R164, R165). -/
theorem port_of_code {c : Instr} {code : Byte} {s t : State} (hcode : codeOf c = some code) (hready : s.port.state = .ready)
    (hexec : exec c s = .next t) : (s.latch code).port.sameCode t.port := by
  by_cases habort : c = .abort
  · subst habort
    cases hcode
    obtain rfl : s.abort = t := Host.Outcome.next.inj hexec
    rw [abort_of_ready hready]
    exact ⟨rfl, rfl, rfl, rfl⟩
  by_cases hreset : c = .schedulerReset
  · subst hreset
    cases hcode
    obtain rfl : s.schedulerReset = t := Host.Outcome.next.inj hexec
    rw [port_schedulerReset]
    exact ⟨rfl, rfl, rfl, rfl⟩
  obtain ⟨owner, howner, hholds⟩ := exists_owner hcode habort hreset
  obtain rfl : s.command code owner = t := Host.Outcome.next.inj ((howner s).symm.trans hexec)
  exact port_command_of_ready hready (hholds (s.latch code) hready)

/-- A command that ends READY with another result than DONE was refused by its owner (R164, R166). -/
theorem refuses_of_result {c : Instr} {code : Byte} {s t : State} (hcode : codeOf c = some code) (habort : c ≠ .abort)
    (hreset : c ≠ .schedulerReset) (hready : s.port.state = .ready) (hexec : exec c s = .next t) (hends : t.port.state = .ready)
    (hresult : t.port.result ≠ .done) : refuses c code s t.port.result := by
  obtain ⟨owner, howner, _⟩ := exists_owner hcode habort hreset
  obtain rfl : s.command code owner = t := Host.Outcome.next.inj ((howner s).symm.trans hexec)
  rw [command_of_ready hready] at hends hresult
  cases hanswer : owner (s.latch code) with
  | done x =>
    rw [hanswer] at hresult
    exact absurd rfl hresult
  | waits x =>
    rw [hanswer] at hends
    cases hends
  | refused why =>
    rw [command_of_ready hready, hanswer]
    exact refuses_of_answer (howner s) hready hanswer

-- The codes (Table 10-3)

theorem codeOf_of_commandOfCode {c : Instr} {code : Byte} (h : commandOfCode code = some c) : codeOf c = some code := by
  simpa using List.find?_some h

theorem writeCommand_of_unassigned {s : State} {code : Byte} (h : commandOfCode code = none) :
    s.writeCommand code = s.unknown code := by
  have hassigned (n : Nat) (hn : code.toNat = n) : commandOfCode (BitVec.ofNat 8 n) = none := by
    rw [← hn, BitVec.ofNat_toNat, BitVec.setWidth_eq]
    exact h
  unfold State.writeCommand
  split
  iterate 21 · next hcode => exact absurd (hassigned _ hcode) (by decide)
  · rfl

theorem mem_codes_iff (c : Instr) (code : Byte) :
    codeOf c = some code ↔ (c, code) ∈
      [(Instr.defineDuty, (0x01 : Byte)), (.startDuty, 0x02), (.stopDuty, 0x03), (.retireDuty, 0x04), (.reviveDuty, 0x05),
        (.setOwed, 0x06), (.prodDuty, 0x07), (.snapshotDuty, 0x08), (.defineTarget, 0x10), (.dropTarget, 0x11),
        (.holdTarget, 0x12), (.releaseTarget, 0x13), (.snapshotTarget, 0x14), (.configureLane, 0x20), (.openLane, 0x21),
        (.closeLane, 0x22), (.blackoutLane, 0x23), (.resumeLane, 0x24), (.clearSuspect, 0x25), (.abort, 0x30),
        (.schedulerReset, 0x31)] := by
  refine ⟨fun h => ?_, fun h => ?_⟩
  · cases c <;> cases h <;> simp
  · simp only [List.mem_cons, Prod.mk.injEq, List.not_mem_nil, or_false] at h
    rcases h with ⟨rfl, rfl⟩ | ⟨rfl, rfl⟩ | ⟨rfl, rfl⟩ | ⟨rfl, rfl⟩ | ⟨rfl, rfl⟩ | ⟨rfl, rfl⟩ | ⟨rfl, rfl⟩ | ⟨rfl, rfl⟩ |
      ⟨rfl, rfl⟩ | ⟨rfl, rfl⟩ | ⟨rfl, rfl⟩ | ⟨rfl, rfl⟩ | ⟨rfl, rfl⟩ | ⟨rfl, rfl⟩ | ⟨rfl, rfl⟩ | ⟨rfl, rfl⟩ | ⟨rfl, rfl⟩ |
      ⟨rfl, rfl⟩ | ⟨rfl, rfl⟩ | ⟨rfl, rfl⟩ | ⟨rfl, rfl⟩ <;> rfl

/-- PORT_STATUS, bit by bit (R178, Table 10-2). -/
theorem toNat_portStatus (p : Port) :
    p.status.toNat = (if p.state = .working then 1 else 0) + (if p.collision = true then 2 else 0) + 16 * p.result.code +
      256 * p.code.toNat := by
  have hresult : p.result.code < 2 ^ 4 := by cases p.result <;> decide
  have h := wordHolds_flag (decide (p.state = .working))
  have h := wordHolds_or_flag h p.collision 1 (by decide) (by decide)
  have h := wordHolds_or_field h 4 hresult (by decide) (by decide)
  have h := wordHolds_or_field h 8 (m := 8) p.code.isLt (by decide) (by decide)
  rw [Port.status, h.1]
  have hcollision := toNat_flag p.collision 2
  have hworking : (decide (p.state = .working)).toNat = if p.state = .working then 1 else 0 := by
    split <;> simp [*]
  omega

/-- Settles O4: what a code taken in READY does, whoever owns it, and the tables of codes. -/
theorem readyTakesACode : Obligations.ReadyTakesACode := by
  refine ⟨fun c code s t hcode hready hexec => port_of_code hcode hready hexec,
    fun c code s t hcode habort hreset hready hexec hends hresult =>
      refuses_of_result hcode habort hreset hready hexec hends hresult,
    fun code s h hready => ?_, fun s => toNat_portStatus s.port, rfl,
    fun c code => ⟨mem_codes_iff c code, codeOf_of_commandOfCode, commandOfCode_of_codeOf⟩, fun s code result => ⟨rfl, rfl⟩⟩
  refine refuses_of_recorded ?_ hready
  have hnot : ¬s.port.state = .working := by simp [hready]
  rw [exec_unknownCode, writeCommand_of_unassigned h, State.unknown, if_neg hnot]

end Sys2Proof.Machine

/-! The checks of the commands (R5, R6, R8, R92, R93, R116, R117, R122): which one fails first, each check by the fields it reads,
and the refusals (O6). -/

namespace Sys2Proof.Machine

-- The first check that fails

theorem checked_skip {fails : Bool} (why : CmdResult) (rest : List (Bool × CmdResult)) (body : Answer) (h : ¬fails = true) :
    Answer.checked ((fails, why) :: rest) body = Answer.checked rest body := by
  rw [Bool.not_eq_true] at h
  subst h
  rfl

theorem checked_head {fails : Bool} (why : CmdResult) (rest : List (Bool × CmdResult)) (body : Answer) (h : fails = true) :
    Answer.checked ((fails, why) :: rest) body = .refused why := by
  subst h
  rfl

/-- Some check fails, and all that do give the same result. -/
theorem checked_of_fails {why : CmdResult} (cs : List (Bool × CmdResult)) (body : Answer)
    (hwhy : ∀ c ∈ cs, c.1 = true → c.2 = why) (hfails : ∃ c ∈ cs, c.1 = true) : Answer.checked cs body = .refused why := by
  induction cs with
  | nil =>
    obtain ⟨c, hc, _⟩ := hfails
    cases hc
  | cons head rest ih =>
    obtain ⟨fails, result⟩ := head
    by_cases hhead : fails = true
    · rw [checked_head result rest body hhead]
      exact congrArg Answer.refused (hwhy (fails, result) (List.mem_cons_self ..) hhead)
    · rw [checked_skip result rest body hhead]
      refine ih (fun c hc => hwhy c (List.mem_cons_of_mem _ hc)) ?_
      obtain ⟨c, hc, hfail⟩ := hfails
      rcases List.mem_cons.mp hc with rfl | hc
      · exact absurd hfail hhead
      · exact ⟨c, hc, hfail⟩

-- The number of a command's block (R5, R92, R116)

theorem withDuty_of_large {n : Nat} (h : 64 ≤ n) (k : DutyIx → Answer) : withDuty n k = .refused .field := by
  rw [withDuty, dif_neg (Nat.not_lt.mpr h)]

theorem withTarget_of_large {n : Nat} (h : 32 ≤ n) (k : TargetIx → Answer) : withTarget n k = .refused .field := by
  rw [withTarget, dif_neg (Nat.not_lt.mpr h)]

theorem withLane_of_large {n : Nat} (h : 4 ≤ n) (k : LaneIx → Answer) : withLane n k = .refused .field := by
  rw [withLane, dif_neg (Nat.not_lt.mpr h)]

section

variable {c : Instr} {code : Byte} {s : State} {why : CmdResult} {owner : State → Answer}
  (hexec : exec c s = .next (s.command code owner)) (hready : s.port.state = .ready)
include hexec hready

theorem refuses_of_duty {d : DutyIx} {k : DutyIx → Answer} (hindex : stagedIndex s.port.staging = d.val)
    (howner : owner (s.latch code) = withDuty (stagedIndex s.port.staging) k) (hk : k d = .refused why) :
    refuses c code s why :=
  refuses_of_answer hexec hready (howner.trans ((withDuty_of_index hindex k).trans hk))

theorem refuses_of_target {g : TargetIx} {k : TargetIx → Answer} (hindex : stagedIndex s.port.staging = g.val)
    (howner : owner (s.latch code) = withTarget (stagedIndex s.port.staging) k) (hk : k g = .refused why) :
    refuses c code s why :=
  refuses_of_answer hexec hready (howner.trans ((withTarget_of_index hindex k).trans hk))

theorem refuses_of_lane {l : LaneIx} {k : LaneIx → Answer} (hindex : stagedIndex s.port.staging = l.val)
    (howner : owner (s.latch code) = withLane (stagedIndex s.port.staging) k) (hk : k l = .refused why) :
    refuses c code s why :=
  refuses_of_answer hexec hready (howner.trans ((withLane_of_index hindex k).trans hk))

end

theorem refuses_of_largeDuty {c : Instr} {code : Byte} {s : State} (hready : s.port.state = .ready)
    (hindex : 64 ≤ stagedIndex s.port.staging)
    (hc : (c, code) ∈ [(Instr.defineDuty, (0x01 : Byte)), (.startDuty, 0x02), (.stopDuty, 0x03), (.retireDuty, 0x04),
      (.reviveDuty, 0x05), (.setOwed, 0x06), (.prodDuty, 0x07), (.snapshotDuty, 0x08)]) : refuses c code s .field := by
  simp only [List.mem_cons, Prod.mk.injEq, List.not_mem_nil, or_false] at hc
  rcases hc with ⟨rfl, rfl⟩ | ⟨rfl, rfl⟩ | ⟨rfl, rfl⟩ | ⟨rfl, rfl⟩ | ⟨rfl, rfl⟩ | ⟨rfl, rfl⟩ | ⟨rfl, rfl⟩ | ⟨rfl, rfl⟩
  · exact refuses_of_answer (owner := answerDefineDuty) rfl hready (withDuty_of_large hindex _)
  · exact refuses_of_answer (owner := answerStartDuty) rfl hready (withDuty_of_large hindex _)
  · exact refuses_of_answer (owner := answerStopDuty) rfl hready (withDuty_of_large hindex _)
  · exact refuses_of_answer (owner := answerRetireDuty) rfl hready (withDuty_of_large hindex _)
  · exact refuses_of_answer (owner := answerReviveDuty) rfl hready (withDuty_of_large hindex _)
  · exact refuses_of_answer (owner := answerSetOwed) rfl hready (withDuty_of_large hindex _)
  · exact refuses_of_answer (owner := answerProdDuty) rfl hready (withDuty_of_large hindex _)
  · exact refuses_of_answer (owner := answerSnapshotDuty) rfl hready (withDuty_of_large hindex _)

theorem refuses_of_largeTarget {c : Instr} {code : Byte} {s : State} (hready : s.port.state = .ready)
    (hindex : 32 ≤ stagedIndex s.port.staging)
    (hc : (c, code) ∈ [(Instr.defineTarget, (0x10 : Byte)), (.dropTarget, 0x11), (.holdTarget, 0x12), (.releaseTarget, 0x13),
      (.snapshotTarget, 0x14)]) : refuses c code s .field := by
  simp only [List.mem_cons, Prod.mk.injEq, List.not_mem_nil, or_false] at hc
  rcases hc with ⟨rfl, rfl⟩ | ⟨rfl, rfl⟩ | ⟨rfl, rfl⟩ | ⟨rfl, rfl⟩ | ⟨rfl, rfl⟩
  · exact refuses_of_answer (owner := answerDefineTarget) rfl hready (withTarget_of_large hindex _)
  · exact refuses_of_answer (owner := answerDropTarget) rfl hready (withTarget_of_large hindex _)
  · exact refuses_of_answer (owner := answerHoldTarget) rfl hready (withTarget_of_large hindex _)
  · exact refuses_of_answer (owner := answerReleaseTarget) rfl hready (withTarget_of_large hindex _)
  · exact refuses_of_answer (owner := answerSnapshotTarget) rfl hready (withTarget_of_large hindex _)

/-- The checks of CONFIGURE LANE after the lane number (R117). -/
def State.configureLaneChecks (s : State) (l : LaneIx) : List (Bool × CmdResult) :=
  [((s.lane l).gate ≠ .closed, .state),
    ((s.lane l).configured && (s.lane l).mode ≠ (laneStaging s.port.latched).mode && s.laneInUse l, .inUse),
    ((laneStaging s.port.latched).divider = 0 || (laneStaging s.port.latched).recoveryTime = 0, .field)]

theorem answerConfigureLane_eq (s : State) :
    answerConfigureLane s = withLane (stagedIndex s.port.latched) fun l =>
      .checked (s.configureLaneChecks l) (.done (s.setLane l (configuredLane (s.lane l) (laneStaging s.port.latched)))) := rfl

theorem refuses_of_largeLane {c : Instr} {code : Byte} {s : State} (hready : s.port.state = .ready)
    (hindex : 4 ≤ stagedIndex s.port.staging)
    (hc : (c, code) ∈ [(Instr.configureLane, (0x20 : Byte)), (.openLane, 0x21), (.closeLane, 0x22), (.blackoutLane, 0x23),
      (.resumeLane, 0x24), (.clearSuspect, 0x25)]) : refuses c code s .field := by
  simp only [List.mem_cons, Prod.mk.injEq, List.not_mem_nil, or_false] at hc
  rcases hc with ⟨rfl, rfl⟩ | ⟨rfl, rfl⟩ | ⟨rfl, rfl⟩ | ⟨rfl, rfl⟩ | ⟨rfl, rfl⟩ | ⟨rfl, rfl⟩
  · exact refuses_of_answer (owner := answerConfigureLane) rfl hready
      ((answerConfigureLane_eq (s.latch 0x20)).trans (withLane_of_large hindex _))
  · exact refuses_of_answer (owner := answerOpenLane) rfl hready (withLane_of_large hindex _)
  · exact refuses_of_answer (owner := answerCloseLane) rfl hready (withLane_of_large hindex _)
  · exact refuses_of_answer (owner := answerBlackoutLane) rfl hready (withLane_of_large hindex _)
  · exact refuses_of_answer (owner := answerResumeLane) rfl hready (withLane_of_large hindex _)
  · exact refuses_of_answer (owner := answerClearSuspect) rfl hready (withLane_of_large hindex _)

-- The checks of the duty commands

/-- A RUNNING, WAITING or FAULTED duty: neither VACANT nor STOPPED (R4). -/
theorem working_iff (x : DutyState) :
    (x = .running ∨ x = .waiting ∨ x = .faulted) ↔ x ≠ .vacant ∧ x ≠ .stopped := by
  cases x <;> simp

theorem dutyFieldBad_iff (x : DutyStaging) :
    dutyFieldBad x = true ↔
      8 < x.payloadLength ∨ 8 < x.readbackLength ∨ x.interval < 16 ∨ 16777215 < x.interval ∨ 15 < x.deferLimit ∨
        15 < x.advanceLimit ∨
        (∃ v, x.initialOwed = some v ∧ (v < -(x.advanceLimit : Int) ∨ (x.deferLimit : Int) + 1 < v)) ∨
        3 < x.retryLimit ∨ x.busyLimit = 0 ∨ 15 < x.busyLimit ∨ 4095 < x.quietTime ∨ 8 < x.shareGroup := by
  cases h : x.initialOwed with
  | none =>
    simp only [dutyFieldBad, h, Bool.or_eq_true, decide_eq_true_eq, or_assoc, Bool.false_eq_true, false_or, reduceCtorEq,
      false_and, exists_false]
    rfl
  | some v =>
    simp only [dutyFieldBad, owedOutside, h, Bool.or_eq_true, decide_eq_true_eq, or_assoc, Option.some.injEq,
      exists_eq_left']
    rfl

theorem noTarget_iff (s : State) (n : Nat) :
    s.noTarget n = true ↔ 32 ≤ n ∨ ∃ g : TargetIx, n = g.val ∧ (s.target g).holdState = .undefined := by
  unfold State.noTarget
  split
  · next h =>
    rw [decide_eq_true_eq]
    refine ⟨fun hundefined => .inr ⟨⟨n, h⟩, rfl, hundefined⟩, ?_⟩
    rintro (hlarge | ⟨g, rfl, hundefined⟩)
    · omega
    · exact hundefined
  · next h => simp [Nat.not_lt.mp h]

/-- A parameter of DEFINE DUTY that FIELD refuses, or that two parameters make so (R6). -/
def State.badDutyStaging (s : State) (w : DutyStaging) : Prop :=
  dutyFieldBad w = true ∨ (w.compare = true ∧ w.readbackLength = 0) ∨ stopNotLater w.startTime w.stopTime = true ∨
    s.noTarget w.target = true

/-- The checks of DEFINE DUTY that read the parameters alone (R6). -/
def State.dutyStagingChecks (s : State) (w : DutyStaging) : List (Bool × CmdResult) :=
  [(dutyFieldBad w, .field), (w.compare && w.readbackLength = 0, .field), (stopNotLater w.startTime w.stopTime, .field),
    (s.noTarget w.target, .field)]

theorem dutyStagingChecks_fail_iff (s : State) (w : DutyStaging) :
    (∃ c ∈ s.dutyStagingChecks w, c.1 = true) ↔ s.badDutyStaging w := by
  simp [State.dutyStagingChecks, State.badDutyStaging]

section

variable {s : State} {d : DutyIx} (body : Answer)
  (hstate : (s.duty d).state = .vacant ∨ ((s.duty d).state = .stopped ∧ (s.duty d).inFlight = false ∧ s.holdsLock d = false))
include hstate

theorem defineDuty_skip_state :
    Answer.checked (s.defineDutyChecks d) body = Answer.checked (s.dutyStagingChecks (dutyStaging s.port.latched)) body := by
  have hworking : ¬((s.duty d).state = .running ∨ (s.duty d).state = .waiting ∨ (s.duty d).state = .faulted) := by
    rw [working_iff]
    rcases hstate with h | ⟨h, _⟩ <;> simp [h]
  unfold State.defineDutyChecks
  dsimp only
  rw [checked_skip _ _ _ (by simpa [or_assoc] using hworking), checked_skip _ _ _ ?_, checked_skip _ _ _ ?_]
  · rfl
  · rcases hstate with h | ⟨_, _, h⟩ <;> simp [h]
  · rcases hstate with h | ⟨_, h, _⟩ <;> simp [h]

theorem defineDuty_field (hbad : s.badDutyStaging (dutyStaging s.port.latched)) :
    Answer.checked (s.defineDutyChecks d) body = .refused .field := by
  rw [defineDuty_skip_state body hstate]
  exact checked_of_fails _ _ (by simp [State.dutyStagingChecks]) ((dutyStagingChecks_fail_iff s _).mpr hbad)

theorem defineDuty_passes (hgood : ¬s.badDutyStaging (dutyStaging s.port.latched)) :
    Answer.checked (s.defineDutyChecks d) body = body := by
  rw [defineDuty_skip_state body hstate]
  refine checked_of_pass body fun c hc => Bool.eq_false_iff.mpr fun hfail => hgood ?_
  exact (dutyStagingChecks_fail_iff s _).mp ⟨c, hc, hfail⟩

end

-- The checks of the target commands

theorem inUse_iff (s : State) (g : TargetIx) :
    s.inUse g = true ↔ ∃ d, (s.duty d).state ≠ .vacant ∧ (s.duty d).defn.target = g := by
  simp only [State.inUse, List.any_eq_true, names_iff]
  exact ⟨fun ⟨d, _, h⟩ => ⟨d, h⟩, fun ⟨d, h⟩ => ⟨d, mem_allDuties d, h⟩⟩

theorem duplicate_iff (s : State) (g : TargetIx) (lane : Nat) (address : Byte) :
    s.duplicate g lane address = true ↔
      ∃ h, h ≠ g ∧ (s.target h).holdState ≠ .undefined ∧ (s.target h).defn.lane.val = lane ∧
        (s.target h).defn.address = address := by
  simp [State.duplicate, mem_allTargets, and_assoc]

theorem laneUnsuited_iff (s : State) (lane : Nat) (address : Byte) :
    s.laneUnsuited lane address = true ↔
      4 ≤ lane ∨ ∃ l : LaneIx, lane = l.val ∧
        ((s.lane l).configured = false ∨ ((s.lane l).mode = .select ∧ 7 < address.toNat) ∨
          ((s.lane l).mode = .addressed ∧ (address.toNat < 0x08 ∨ 0x77 < address.toNat))) := by
  unfold State.laneUnsuited
  split
  · next h =>
    have hlane : (∃ l : LaneIx, lane = l.val ∧
        ((s.lane l).configured = false ∨ ((s.lane l).mode = .select ∧ 7 < address.toNat) ∨
          ((s.lane l).mode = .addressed ∧ (address.toNat < 0x08 ∨ 0x77 < address.toNat)))) ↔
        ((s.lane ⟨lane, h⟩).configured = false ∨ ((s.lane ⟨lane, h⟩).mode = .select ∧ 7 < address.toNat) ∨
          ((s.lane ⟨lane, h⟩).mode = .addressed ∧ (address.toNat < 0x08 ∨ 0x77 < address.toNat))) :=
      ⟨fun ⟨l, hl, hbad⟩ => by subst hl; exact hbad, fun hbad => ⟨⟨lane, h⟩, rfl, hbad⟩⟩
    rw [hlane, or_iff_right (Nat.not_le.mpr h)]
    cases hmode : (s.lane ⟨lane, h⟩).mode <;> simp [hmode]
  · next h => simp [Nat.not_lt.mp h]

/-- A parameter of DEFINE TARGET that FIELD refuses (R93). -/
theorem targetFieldBad_iff (s : State) (w : TargetStaging) :
    (s.laneUnsuited w.lane w.address || w.responseTimeout = 0 || w.busyBackoff = 0 ||
        decide (Config.holdPayloadMax < w.entryLength) || decide (Config.holdPayloadMax < w.exitLength) ||
        decide (Config.retryMax < w.holdRetryLimit)) = true ↔
      s.laneUnsuited w.lane w.address = true ∨ w.responseTimeout = 0 ∨ w.busyBackoff = 0 ∨ 4 < w.entryLength ∨
        4 < w.exitLength ∨ 3 < w.holdRetryLimit := by
  simp only [Bool.or_eq_true, decide_eq_true_eq, or_assoc]
  rfl

/-- The checks of DEFINE TARGET after the state and IN-USE (R93). -/
def State.targetStagingChecks (s : State) (g : TargetIx) (w : TargetStaging) : List (Bool × CmdResult) :=
  [(s.duplicate g w.lane w.address, .duplicate),
    (s.laneUnsuited w.lane w.address || w.responseTimeout = 0 || w.busyBackoff = 0 ||
      decide (Config.holdPayloadMax < w.entryLength) || decide (Config.holdPayloadMax < w.exitLength) ||
      decide (Config.retryMax < w.holdRetryLimit), .field)]

section

variable {s : State} {g : TargetIx} (body : Answer)
  (hstate : (s.target g).holdState = .undefined ∨ (s.target g).holdState = .active)
include hstate

theorem defineTarget_skip_state :
    Answer.checked (s.defineTargetChecks g) body = Answer.checked (s.defineTargetChecks g).tail body := by
  refine checked_skip _ _ _ ?_
  rcases hstate with h | h <;> simp [h]

theorem defineTarget_inUse (hactive : (s.target g).holdState = .active) (huse : s.inUse g = true) :
    Answer.checked (s.defineTargetChecks g) body = .refused .inUse := by
  rw [defineTarget_skip_state body hstate]
  exact checked_head _ _ _ (by simp [hactive, huse])

theorem defineTarget_skip_inUse (hunused : (s.target g).holdState = .undefined ∨ s.inUse g = false) :
    Answer.checked (s.defineTargetChecks g) body =
      Answer.checked (s.targetStagingChecks g (targetStaging s.port.latched)) body := by
  rw [defineTarget_skip_state body hstate]
  refine checked_skip _ _ _ ?_
  rcases hunused with h | h <;> simp [h]

end

-- The checks of the lane commands

theorem laneInUse_iff (s : State) (l : LaneIx) :
    s.laneInUse l = true ↔ ∃ g, (s.target g).holdState ≠ .undefined ∧ (s.target g).defn.lane = l := by
  simp [State.laneInUse, mem_allTargets]

-- The operands (Table 10-5)

theorem operandsLaidOut_all (v : Vector Word 32) : operandsLaidOut v := by
  have hstart := epochFrom_stagedEpoch v ((wordAt v 1).getLsbD 0) 2 (by decide)
  rw [wordAt_eq v 1 (by decide)] at hstart
  refine ⟨?_, ?_, ?_, ?_, ?_, ?_⟩
  · rw [stagedIndex, lowByte_toNat, wordAt_eq v 0 (by decide)]
  · rw [stagedOwed, wordAt_eq v 1 (by decide)]
  · rw [stagedClear, wordAt_eq v 1 (by decide)]
  · rw [stagedLength, wordAt_eq v 1 (by decide)]
  · rw [stagedYield, wordAt_eq v 2 (by decide)]
  · rw [stagedStartTime, wordAt_eq v 1 (by decide)]
    exact hstart

end Sys2Proof.Machine

/-! The refusals of the commands (O6). -/

namespace Sys2Proof.Machine

-- The duty commands

section

variable {s : State} {d : DutyIx} (hready : s.port.state = .ready) (hindex : stagedIndex s.port.staging = d.val)
include hready hindex

theorem refuses_defineDuty_of_working (h : (s.duty d).state ≠ .vacant) (h' : (s.duty d).state ≠ .stopped) :
    refuses .defineDuty 0x01 s .state := by
  refine refuses_of_duty (owner := answerDefineDuty) rfl hready hindex rfl ?_
  refine checked_head _ _ _ ?_
  rcases (working_iff (s.duty d).state).mpr ⟨h, h'⟩ with h | h | h <;> simp [h]

theorem refuses_defineDuty_of_stopped (hstate : (s.duty d).state = .stopped)
    (h : (s.duty d).inFlight = true ∨ s.holdsLock d = true) : refuses .defineDuty 0x01 s .state := by
  refine refuses_of_duty (owner := answerDefineDuty) rfl hready hindex rfl ?_
  show Answer.checked ((s.latch 0x01).defineDutyChecks d) _ = _
  unfold State.defineDutyChecks
  dsimp only
  rw [checked_skip _ _ _ (by simp [hstate])]
  by_cases hflight : (s.duty d).inFlight = true
  · exact checked_head _ _ _ (by simp [hstate, hflight])
  · have hlock : (s.latch 0x01).holdsLock d = true := h.resolve_left hflight
    rw [checked_skip _ _ _ (by simp [hflight]), checked_head _ _ _ (by rw [hlock, Bool.and_true]; exact decide_eq_true hstate)]

theorem refuses_defineDuty_of_field
    (hstate : (s.duty d).state = .vacant ∨ ((s.duty d).state = .stopped ∧ (s.duty d).inFlight = false ∧ s.holdsLock d = false))
    (hbad : s.badDutyStaging (dutyStaging s.port.staging)) : refuses .defineDuty 0x01 s .field :=
  refuses_of_duty (owner := answerDefineDuty) rfl hready hindex rfl (defineDuty_field (s := s.latch 0x01) _ hstate hbad)

theorem refuses_startDuty_of_state (h : (s.duty d).state ≠ .stopped ∨ (s.duty d).inFlight = true) :
    refuses .startDuty 0x02 s .state := by
  refine refuses_of_duty (owner := answerStartDuty) rfl hready hindex rfl ?_
  show Answer.checked ((s.latch 0x02).startDutyChecks d) _ = _
  unfold State.startDutyChecks
  dsimp only
  by_cases hstopped : (s.duty d).state = .stopped
  · rw [checked_skip _ _ _ (by simp [hstopped]), checked_head _ _ _ (by simpa using h.resolve_left (not_not.mpr hstopped))]
  · exact checked_head _ _ _ (by simp [hstopped])

theorem refuses_startDuty_of_field {start : Option Epoch} (hstate : (s.duty d).state = .stopped)
    (hflight : (s.duty d).inFlight = false)
    (hstart : start = if (stagedStartTime s.port.staging).isSome = true then stagedStartTime s.port.staging
      else (s.duty d).defn.startTime)
    (hstop : ∃ b, (s.duty d).defn.stopTime = some b ∧ (b.toNat ≤ s.now.toNat ∨ ∃ a, start = some a ∧ b.toNat ≤ a.toNat)) :
    refuses .startDuty 0x02 s .field := by
  have hused : (s.latch 0x02).startTimeUsed d = start := (startTimeUsed_eq (s.latch 0x02) d).trans hstart.symm
  refine refuses_of_duty (owner := answerStartDuty) rfl hready hindex rfl ?_
  show Answer.checked ((s.latch 0x02).startDutyChecks d) _ = _
  unfold State.startDutyChecks
  dsimp only
  rw [checked_skip _ _ _ (by simp [hstate]), checked_skip _ _ _ (by simp [hflight])]
  refine checked_of_fails _ _ (by simp) ?_
  obtain ⟨b, hb, hreached | ⟨a, ha, hle⟩⟩ := hstop
  · exact ⟨_, List.mem_cons_of_mem _ (List.mem_cons_self ..), (presentAndReached_iff _ _).mpr ⟨b, hb, hreached⟩⟩
  · exact ⟨_, List.mem_cons_self .., (stopNotLater_iff _ _).mpr ⟨a, b, hused.trans ha, hb, hle⟩⟩

theorem refuses_stopDuty_of_state (h : (s.duty d).state = .vacant ∨ (s.duty d).state = .stopped) :
    refuses .stopDuty 0x03 s .state := by
  refine refuses_of_duty (owner := answerStopDuty) rfl hready hindex rfl (checked_head _ _ _ ?_)
  rcases h with h | h <;> simp [h]

theorem refuses_retireDuty_of_vacant (h : (s.duty d).state = .vacant) : refuses .retireDuty 0x04 s .state :=
  refuses_of_duty (owner := answerRetireDuty) rfl hready hindex rfl (checked_head _ _ _ (decide_eq_true h))

theorem refuses_setOwed_of_vacant (h : (s.duty d).state = .vacant) : refuses .setOwed 0x06 s .state :=
  refuses_of_duty (owner := answerSetOwed) rfl hready hindex rfl (checked_head _ _ _ (decide_eq_true h))

theorem refuses_reviveDuty_of_state (h : (s.duty d).state ≠ .faulted) : refuses .reviveDuty 0x05 s .state :=
  refuses_of_duty (owner := answerReviveDuty) rfl hready hindex rfl (checked_head _ _ _ (decide_eq_true h))

theorem refuses_prodDuty_of_state (h : (s.duty d).state ≠ .running) : refuses .prodDuty 0x07 s .state :=
  refuses_of_duty (owner := answerProdDuty) rfl hready hindex rfl (checked_head _ _ _ (decide_eq_true h))

end

/-- The FIELD checks of DEFINE DUTY, by the fields that they read (R6). -/
theorem badDutyStaging_of {s : State} {w : DutyStaging}
    (h : 8 < w.payloadLength ∨ 8 < w.readbackLength ∨ w.interval < 16 ∨
      (∃ v, w.initialOwed = some v ∧ (v < -(w.advanceLimit : Int) ∨ (w.deferLimit : Int) + 1 < v)) ∨ 3 < w.retryLimit ∨
      w.busyLimit = 0 ∨ 4095 < w.quietTime ∨ 8 < w.shareGroup ∨ (w.compare = true ∧ w.readbackLength = 0) ∨
      (∃ a b, w.startTime = some a ∧ w.stopTime = some b ∧ b.toNat ≤ a.toNat) ∨ 32 ≤ w.target ∨
      ∃ g : TargetIx, w.target = g.val ∧ (s.target g).holdState = .undefined) : s.badDutyStaging w := by
  rw [State.badDutyStaging, dutyFieldBad_iff, stopNotLater_iff, noTarget_iff]
  rcases h with h | h | h | h | h | h | h | h | h | h | h | h <;>
    simp only [h, true_or, or_true, and_self]

-- The target commands

section

variable {s : State} {g : TargetIx} (hready : s.port.state = .ready)
include hready

theorem refuses_defineTarget_of_state (hindex : stagedIndex s.port.staging = g.val) (h : (s.target g).holdState ≠ .undefined)
    (h' : (s.target g).holdState ≠ .active) : refuses .defineTarget 0x10 s .state :=
  refuses_of_target (owner := answerDefineTarget) rfl hready hindex rfl (checked_head _ _ _ (by simp [h, h']))

theorem refuses_dropTarget_of_state (hindex : stagedIndex s.port.staging = g.val)
    (h : (s.target g).holdState = .undefined ∨ (s.target g).holdState = .entering ∨ (s.target g).holdState = .leaving) :
    refuses .dropTarget 0x11 s .state :=
  refuses_of_target (owner := answerDropTarget) rfl hready hindex rfl
    (checked_head _ _ _ (by rcases h with h | h | h <;> simp [h]))

theorem refuses_holdTarget_of_state (hindex : stagedIndex s.port.staging = g.val) (h : (s.target g).holdState ≠ .active) :
    refuses .holdTarget 0x12 s .state :=
  refuses_of_target (owner := answerHoldTarget) rfl hready hindex rfl (checked_head _ _ _ (decide_eq_true h))

variable (hindex : (targetStaging s.port.staging).index = g.val)
  (hstate : (s.target g).holdState = .undefined ∨ (s.target g).holdState = .active)
include hindex hstate

theorem refuses_defineTarget_of_inUse (hactive : (s.target g).holdState = .active)
    (huse : ∃ d, (s.duty d).state ≠ .vacant ∧ (s.duty d).defn.target = g) : refuses .defineTarget 0x10 s .inUse :=
  refuses_of_target (owner := answerDefineTarget) rfl hready hindex rfl
    (defineTarget_inUse (s := s.latch 0x10) _ hstate hactive ((inUse_iff s g).mpr huse))

variable (hunused : (s.target g).holdState = .undefined ∨ ∀ d, (s.duty d).state ≠ .vacant → (s.duty d).defn.target ≠ g)
include hunused

theorem refuses_defineTarget_of_duplicate
    (h : s.duplicate g (targetStaging s.port.staging).lane (targetStaging s.port.staging).address = true) :
    refuses .defineTarget 0x10 s .duplicate := by
  refine refuses_of_target (owner := answerDefineTarget) rfl hready hindex rfl ?_
  refine (defineTarget_skip_inUse (s := s.latch 0x10) _ hstate (hunused.imp id (inUse_eq_false_iff s g).mpr)).trans ?_
  exact checked_head _ _ _ h

theorem refuses_defineTarget_of_field
    (h : ¬s.duplicate g (targetStaging s.port.staging).lane (targetStaging s.port.staging).address = true)
    (hbad : s.laneUnsuited (targetStaging s.port.staging).lane (targetStaging s.port.staging).address = true ∨
      (targetStaging s.port.staging).responseTimeout = 0 ∨ (targetStaging s.port.staging).busyBackoff = 0 ∨
      4 < (targetStaging s.port.staging).entryLength ∨ 4 < (targetStaging s.port.staging).exitLength ∨
      3 < (targetStaging s.port.staging).holdRetryLimit) : refuses .defineTarget 0x10 s .field := by
  refine refuses_of_target (owner := answerDefineTarget) rfl hready hindex rfl ?_
  refine (defineTarget_skip_inUse (s := s.latch 0x10) _ hstate (hunused.imp id (inUse_eq_false_iff s g).mpr)).trans ?_
  exact (checked_skip _ _ _ h).trans (checked_head _ _ _ ((targetFieldBad_iff s _).mpr hbad))

end

-- The lane commands

theorem modeConflict_iff (s : State) (l : LaneIx) (w : LaneStaging) :
    ((s.lane l).configured && (s.lane l).mode ≠ w.mode && s.laneInUse l) = true ↔
      (s.lane l).configured = true ∧ (s.lane l).mode ≠ w.mode ∧
        ∃ g, (s.target g).holdState ≠ .undefined ∧ (s.target g).defn.lane = l := by
  rw [Bool.and_eq_true, Bool.and_eq_true, decide_eq_true_eq, laneInUse_iff, and_assoc]

/-- A lane that may take the Mode has no conflict of IN-USE (R117). -/
theorem modeConflict_none {s : State} {l : LaneIx} {w : LaneStaging}
    (h : (s.lane l).configured = false ∨ (s.lane l).mode = w.mode ∨
      ∀ g, (s.target g).holdState ≠ .undefined → (s.target g).defn.lane ≠ l) :
    ¬((s.lane l).configured && (s.lane l).mode ≠ w.mode && s.laneInUse l) = true := by
  rw [modeConflict_iff]
  rintro ⟨hconfigured, hmode, g, hg, hlane⟩
  rcases h with h | h | h
  · exact Bool.false_ne_true (h.symm.trans hconfigured)
  · exact hmode h
  · exact h g hg hlane

theorem laneFieldBad_iff (w : LaneStaging) :
    (decide (w.divider = 0) || decide (w.recoveryTime = 0)) = true ↔ w.divider = 0 ∨ w.recoveryTime = 0 := by
  simp

section

variable {s : State} {l : LaneIx} (hready : s.port.state = .ready) (hindex : stagedIndex s.port.staging = l.val)
include hready hindex

theorem refuses_configureLane {why : CmdResult}
    (h : ∀ body, Answer.checked ((s.latch 0x20).configureLaneChecks l) body = .refused why) : refuses .configureLane 0x20 s why :=
  refuses_of_lane (owner := answerConfigureLane) rfl hready hindex (answerConfigureLane_eq (s.latch 0x20)) (h _)

theorem refuses_configureLane_of_gate (h : (s.lane l).gate ≠ .closed) : refuses .configureLane 0x20 s .state :=
  refuses_configureLane hready hindex fun _ => checked_head _ _ _ (decide_eq_true h)

variable (hgate : (s.lane l).gate = .closed)
include hgate

theorem refuses_configureLane_of_inUse (hconfigured : (s.lane l).configured = true)
    (hmode : (s.lane l).mode ≠ (laneStaging s.port.staging).mode)
    (huse : ∃ g, (s.target g).holdState ≠ .undefined ∧ (s.target g).defn.lane = l) : refuses .configureLane 0x20 s .inUse := by
  refine refuses_configureLane hready hindex fun body => ?_
  refine (checked_skip _ _ _ (by simp [hgate])).trans (checked_head _ _ _ ?_)
  exact (modeConflict_iff (s.latch 0x20) l _).mpr ⟨hconfigured, hmode, huse⟩

theorem refuses_configureLane_of_field
    (hunused : (s.lane l).configured = false ∨ (s.lane l).mode = (laneStaging s.port.staging).mode ∨
      ∀ g, (s.target g).holdState ≠ .undefined → (s.target g).defn.lane ≠ l)
    (h : (laneStaging s.port.staging).divider = 0 ∨ (laneStaging s.port.staging).recoveryTime = 0) :
    refuses .configureLane 0x20 s .field := by
  refine refuses_configureLane hready hindex fun body => ?_
  refine (checked_skip _ _ _ (by simp [hgate])).trans ((checked_skip _ _ _ ?_).trans (checked_head _ _ _ ?_))
  · exact modeConflict_none (s := s.latch 0x20) hunused
  · exact (laneFieldBad_iff _).mpr h

end

section

variable {s : State} {l : LaneIx} (hready : s.port.state = .ready) (hindex : stagedIndex s.port.staging = l.val)
include hready hindex

theorem refuses_blackoutLane_of_gate (h : (s.lane l).gate = .closed ∨ (s.lane l).gate = .suspect) :
    refuses .blackoutLane 0x23 s .state :=
  refuses_of_lane (owner := answerBlackoutLane) rfl hready hindex rfl
    (checked_head _ _ _ (by rcases h with h | h <;> simp [h]))

variable (hgate : (s.lane l).gate = .opened ∨ (s.lane l).gate = .blackout)
include hgate

omit hready hindex in
theorem blackoutLane_skip_gate : ¬(decide ((s.lane l).gate = .closed) || decide ((s.lane l).gate = .suspect)) = true := by
  rcases hgate with h | h <;> simp [h]

theorem refuses_blackoutLane_of_pressed (hyield : stagedYield s.port.staging = true) (hpressed : s.pressedOnLane l = true) :
    refuses .blackoutLane 0x23 s .state := by
  refine refuses_of_lane (owner := answerBlackoutLane) rfl hready hindex rfl ?_
  refine (checked_skip _ _ _ (blackoutLane_skip_gate hgate)).trans (checked_head _ _ _ ?_)
  exact Bool.and_eq_true_iff.mpr ⟨hyield, hpressed⟩

theorem refuses_blackoutLane_of_length (h : ¬(stagedYield s.port.staging = true ∧ s.pressedOnLane l = true))
    (hlength : stagedLength s.port.staging = 0) : refuses .blackoutLane 0x23 s .field := by
  refine refuses_of_lane (owner := answerBlackoutLane) rfl hready hindex rfl ?_
  refine (checked_skip _ _ _ (blackoutLane_skip_gate hgate)).trans ((checked_skip _ _ _ ?_).trans
    (checked_head _ _ _ (decide_eq_true hlength)))
  exact fun hboth => h (Bool.and_eq_true_iff.mp hboth)

end

/-- Settles O6: the number, the state, the conflicts and the parameters of each command, in the order of its checks. -/
theorem refusalsByNumberAndState : Obligations.RefusalsByNumberAndState := by
  refine ⟨fun c code s hready hindex hc => refuses_of_largeDuty hready hindex hc,
    fun c code s hready hindex hc => refuses_of_largeTarget hready hindex hc,
    fun c code s hready hindex hc => refuses_of_largeLane hready hindex hc,
    fun s d hready hindex => ⟨refuses_defineDuty_of_working hready hindex, refuses_startDuty_of_state hready hindex,
      refuses_stopDuty_of_state hready hindex,
      fun h => ⟨refuses_retireDuty_of_vacant hready hindex h, refuses_setOwed_of_vacant hready hindex h⟩,
      refuses_reviveDuty_of_state hready hindex, refuses_prodDuty_of_state hready hindex⟩,
    fun s g hready hindex => ⟨refuses_defineTarget_of_state hready hindex, refuses_dropTarget_of_state hready hindex,
      refuses_holdTarget_of_state hready hindex⟩,
    fun s l hready hindex => ⟨refuses_configureLane_of_gate hready hindex, refuses_blackoutLane_of_gate hready hindex⟩,
    fun s d w hready hw hindex => ?_,
    fun s d start hready hindex hstate hflight hstart hstop =>
      refuses_startDuty_of_field hready hindex hstate hflight hstart hstop,
    fun s g w hready hw hindex hstate => ?_, fun s l w hready hw hindex hgate => ?_,
    fun s l pressed hready hindex hgate hpressed => ?_, operandsLaidOut_all⟩
  · obtain rfl := DutyStaging.laidOut_iff.mp hw
    exact ⟨refuses_defineDuty_of_stopped hready hindex,
      fun hstate hbad => refuses_defineDuty_of_field hready hindex hstate (badDutyStaging_of hbad)⟩
  · obtain rfl := TargetStaging.laidOut_iff.mp hw
    refine ⟨refuses_defineTarget_of_inUse hready hindex hstate, fun hunused => ⟨fun h => ?_, fun h hbad => ?_⟩⟩
    · exact refuses_defineTarget_of_duplicate hready hindex hstate hunused ((duplicate_iff s g _ _).mpr h)
    · refine refuses_defineTarget_of_field hready hindex hstate hunused ?_ ?_
      · rw [duplicate_iff]
        rintro ⟨j, hj, hdefined, hlane, haddress⟩
        exact h j hj hdefined hlane haddress
      · rw [laneUnsuited_iff, or_assoc]
        exact hbad
  · obtain rfl := LaneStaging.laidOut_iff.mp hw
    exact ⟨refuses_configureLane_of_inUse hready hindex hgate, refuses_configureLane_of_field hready hindex hgate⟩
  · rw [← pressedOnLane_iff s l] at hpressed
    refine ⟨fun hyield h => refuses_blackoutLane_of_pressed hready hindex hgate hyield (hpressed.mp h), fun h hlength => ?_⟩
    exact refuses_blackoutLane_of_length hready hindex hgate (fun ⟨hyield, hon⟩ => h ⟨hyield, hpressed.mpr hon⟩) hlength

end Sys2Proof.Machine

/-! Bus writes as rows (O16), and the commands that write a definition: DEFINE DUTY (O39), DEFINE TARGET (O44), DROP TARGET and
HOLD TARGET (O45), CONFIGURE LANE (O50). -/

namespace Sys2Proof.Machine

-- Bus writes (R164, R177)

theorem wf_of_code {c : Instr} {code : Byte} (h : codeOf c = some code) : Instr.wf c = true := by
  cases c <;> cases h <;> rfl

theorem wf_unknownCode {code : Byte} (h : commandOfCode code = none) : Instr.wf (.unknownCode code) = true := by
  rw [Instr.wf, h]
  rfl

theorem wf_commandDiscarded {code : Byte} (habort : code ≠ 0x30) (hreset : code ≠ 0x31) :
    Instr.wf (.commandDiscarded code) = true := by
  exact Bool.and_eq_true_iff.mpr ⟨bne_iff_ne.mpr habort, bne_iff_ne.mpr hreset⟩

/-- A row that is the write of a code. -/
def Instr.writes (c : Instr) (code : Byte) : Prop :=
  Instr.wf c = true ∧ ∀ s : State, exec c s = .next (s.writeCommand code)

theorem writes_of_code {c : Instr} {code : Byte} (h : codeOf c = some code) : Instr.writes c code :=
  ⟨wf_of_code h, exec_of_code h⟩

theorem rowOfCode_writes (s : State) (code : Byte) : Instr.writes (s.rowOfCode code) code := by
  unfold State.rowOfCode
  split
  · next h => exact writes_of_code (codeOf_of_commandOfCode h)
  · next h => exact writes_of_code (codeOf_of_commandOfCode h)
  · next c habort hreset h =>
    have hcode := codeOf_of_commandOfCode h
    split
    · exact ⟨wf_commandDiscarded (code_ne_of_ne hcode (d := .abort) rfl habort)
        (code_ne_of_ne hcode (d := .schedulerReset) rfl hreset), exec_commandDiscarded code⟩
    · exact writes_of_code hcode
  · next h =>
    split
    · exact ⟨wf_commandDiscarded (code_ne_of_unassigned h (c := .abort) rfl)
        (code_ne_of_unassigned h (c := .schedulerReset) rfl), exec_commandDiscarded code⟩
    · exact ⟨wf_unknownCode h, exec_unknownCode code⟩

/-- Settles O16: each register with a row of its own, and every other address. -/
theorem busWriteIsItsRow : Obligations.BusWriteIsItsRow := by
  intro s reg v
  have hreg (n : Nat) (hn : reg.toNat = n) : reg = BitVec.ofNat 7 n := by
    rw [← hn, BitVec.ofNat_toNat, BitVec.setWidth_eq]
  unfold State.rowOfWrite
  split
  · next h =>
    obtain ⟨hwf, hexec⟩ := rowOfCode_writes s (lowByte v)
    rw [hexec s, hreg _ h]
    exact ⟨hwf, rfl⟩
  · next h => rw [hreg _ h]; exact ⟨rfl, rfl⟩
  · next h => rw [hreg _ h]; exact ⟨rfl, rfl⟩
  · next h => rw [hreg _ h]; exact ⟨rfl, rfl⟩
  · next h => rw [hreg _ h]; exact ⟨rfl, rfl⟩
  · next h => rw [hreg _ h]; exact ⟨rfl, rfl⟩
  · next h => rw [hreg _ h]; exact ⟨rfl, rfl⟩
  · refine ⟨(wf_registerWrite reg v).mpr ?_, rfl⟩
    simp only [List.mem_cons, List.not_mem_nil, or_false, not_or]
    exact ⟨‹_›, ‹_›, ‹_›, ‹_›, ‹_›, ‹_›, ‹_›⟩

-- A command that passes its checks

/-- Settles O39: no check of R6 fails, and the definition is the one laid out in the staging words. -/
theorem defineDutyWritesTheRecord : Obligations.DefineDutyWritesTheRecord := by
  intro s d w y hready hw hy hindex hstate hpayload hreadback hmin hmax hdefer hadvance howed hretry hbusy hbusy' hquiet hshare
    hcompare htimes htarget
  obtain rfl := DutyStaging.laidOut_iff.mp hw
  obtain rfl := DutyDef.eq_of_laidOut hy hpayload hreadback
  refine exec_of_answer_done (owner := answerDefineDuty) rfl hready ((withDuty_of_index hindex _).trans ?_)
  refine defineDuty_passes (s := s.latch 0x01) _ hstate ?_
  show ¬s.badDutyStaging (dutyStaging s.port.staging)
  rw [State.badDutyStaging, dutyFieldBad_iff, stopNotLater_iff, noTarget_iff]
  rintro (h | ⟨hc, hlength⟩ | ⟨a, b, ha, hb, hle⟩ | h)
  · obtain h | h | h | h | h | h | ⟨v, hv, h⟩ | h | h | h | h | h := h
    case inr.inr.inr.inr.inr.inr.inl =>
      have := howed v hv
      omega
    all_goals omega
  · exact hcompare hc hlength
  · have := htimes a b ha hb
    omega
  · obtain ⟨g, hg, hdefined⟩ := htarget
    rcases h with h | ⟨j, hj, hundefined⟩
    · have := g.isLt
      omega
    · obtain rfl : g = j := Fin.ext (hg.symm.trans hj)
      exact hdefined hundefined

-- DEFINE TARGET

/-- Settles O44: no check of R93 fails, and the definition is the one laid out in the staging words. -/
theorem defineTargetWritesTheRecord : Obligations.DefineTargetWritesTheRecord := by
  intro s g w y l hready hw hy hindex hlane hstate hunique hconfigured hselect haddressed htimeout hbackoff hentry hexit hretry
  obtain rfl := TargetStaging.laidOut_iff.mp hw
  obtain rfl := TargetDef.eq_of_laidOut hy hentry hexit
  refine exec_of_answer_done (owner := answerDefineTarget) rfl hready ((withTarget_of_index hindex _).trans ?_)
  have hstate' : (s.target g).holdState = .undefined ∨ (s.target g).holdState = .active := hstate.imp id And.left
  have hunused : (s.target g).holdState = .undefined ∨ s.inUse g = false :=
    hstate.imp id fun ⟨_, h⟩ => (inUse_eq_false_iff s g).mpr h
  refine (defineTarget_skip_inUse (s := s.latch 0x10) _ hstate' hunused).trans ?_
  refine (checked_skip _ _ _ ?_).trans (checked_skip _ _ _ ?_)
  · show ¬s.duplicate g (targetStaging s.port.staging).lane (targetStaging s.port.staging).address = true
    rw [duplicate_iff]
    rintro ⟨h, hne, hdefined, hsame, haddress⟩
    rcases hunique h hne hdefined with hother | hother
    · exact hother (Fin.ext (hsame.trans hlane))
    · exact hother haddress
  · refine (targetFieldBad_iff s (targetStaging s.port.staging)).not.mpr ?_
    rw [laneUnsuited_iff]
    rintro ((hlarge | ⟨j, hj, hbad⟩) | hfield)
    · have := l.isLt
      omega
    · obtain rfl : j = l := Fin.ext (hj.symm.trans hlane)
      rcases hbad with hbad | ⟨hmode, hbad⟩ | ⟨hmode, hbad⟩
      · rw [hconfigured] at hbad
        cases hbad
      · have := hselect hmode
        omega
      · have := haddressed hmode
        omega
    · omega

-- DROP TARGET and HOLD TARGET

theorem catchUpPending_iff (s : State) (g : TargetIx) :
    s.catchUpPending g = true ↔
      ∃ d, (s.duty d).state ≠ .vacant ∧ (s.duty d).defn.target = g ∧ (s.duty d).catchUp = true := by
  simp only [State.catchUpPending, List.any_eq_true, Bool.and_eq_true, names_iff, and_assoc]
  exact ⟨fun ⟨d, _, h⟩ => ⟨d, h⟩, fun ⟨d, h⟩ => ⟨d, mem_allDuties d, h⟩⟩

/-- DROP TARGET is taken in these hold states (R95). -/
theorem dropTarget_takes {x : HoldState} (h : x = .active ∨ x = .held ∨ x = .settling ∨ x = .stranded) :
    ¬(decide (x = .undefined) || decide (x = .entering) || decide (x = .leaving)) = true := by
  rcases h with rfl | rfl | rfl | rfl <;> decide

/-- Settles O45: the checks of each, and what it writes. -/
theorem dropAndHoldTarget : Obligations.DropAndHoldTarget := by
  refine ⟨fun s g hready hindex hstate => ⟨fun hunused => ?_, fun huse => ?_⟩,
    fun s g hready hindex hactive => ⟨fun hnone => ?_, fun hpending => ?_⟩⟩
  · refine exec_of_answer_done (owner := answerDropTarget) rfl hready ((withTarget_of_index hindex _).trans ?_)
    refine (checked_skip _ _ _ (dropTarget_takes hstate)).trans (checked_skip _ _ _ ?_)
    exact Bool.eq_false_iff.mp ((inUse_eq_false_iff s g).mpr hunused)
  · refine refuses_of_target (owner := answerDropTarget) rfl hready hindex rfl ?_
    exact (checked_skip _ _ _ (dropTarget_takes hstate)).trans (checked_head _ _ _ ((inUse_iff s g).mpr huse))
  · refine doneFrom_of_answer (owner := answerHoldTarget) rfl hready (List.nodup_singleton _)
      ((withTarget_of_index hindex _).trans ?_)
    refine (checked_skip _ _ _ (by simp [hactive])).trans (checked_skip _ _ _ ?_)
    refine (catchUpPending_iff s g).not.mpr ?_
    rintro ⟨d, hnamed, htarget, hcatch⟩
    rw [hnone d hnamed htarget] at hcatch
    cases hcatch
  · refine refuses_of_target (owner := answerHoldTarget) rfl hready hindex rfl ?_
    exact (checked_skip _ _ _ (by simp [hactive])).trans (checked_head _ _ _ ((catchUpPending_iff s g).mpr hpending))

-- CONFIGURE LANE

theorem exec_configureLane_of_accepted {s : State} {l : LaneIx} (hready : s.port.state = .ready)
    (hindex : stagedIndex s.port.staging = l.val) (hgate : (s.lane l).gate = .closed)
    (hunused : (s.lane l).configured = false ∨ (s.lane l).mode = (laneStaging s.port.staging).mode ∨
      ∀ g, (s.target g).holdState ≠ .undefined → (s.target g).defn.lane ≠ l)
    (hdivider : (laneStaging s.port.staging).divider ≠ 0) (hrecovery : (laneStaging s.port.staging).recoveryTime ≠ 0) :
    exec .configureLane s =
      .next (((s.latch 0x20).setLane l (configuredLane (s.lane l) (laneStaging s.port.staging))).recordResult .done) := by
  refine exec_of_answer_done (owner := answerConfigureLane) rfl hready
    ((answerConfigureLane_eq (s.latch 0x20)).trans ((withLane_of_index hindex _).trans ?_))
  refine (checked_skip _ _ _ (by simp [hgate])).trans ((checked_skip _ _ _ ?_).trans (checked_skip _ _ _ ?_))
  · exact modeConflict_none hunused
  · refine (laneFieldBad_iff _).not.mpr ?_
    rintro (h | h)
    · exact hdivider h
    · exact hrecovery h

theorem configuredLane_of_select {x : Lane} {w : LaneStaging} (h : w.mode = .select) :
    configuredLane x w = { x with
      configured := true, mode := .select, divider := w.divider, bitOrder := w.bitOrder, polarityHigh := w.polarityHigh
      autoResume := w.autoResume, recoveryTime := w.recoveryTime
      pins := { clk := if w.polarityHigh = true then .high else .low, dout := .high, sel := 0xFF, pullUp := true } } := by
  simp [configuredLane, Lane.idlePins, h]

theorem configuredLane_of_addressed {x : Lane} {w : LaneStaging} (h : w.mode = .addressed) :
    configuredLane x w = { x with
      configured := true, mode := .addressed, divider := w.divider, bitOrder := .msbFirst, polarityHigh := false
      autoResume := w.autoResume, recoveryTime := w.recoveryTime
      pins := { clk := .released, dout := .released, sel := 0xFF, pullUp := false } } := by
  simp [configuredLane, Lane.idlePins, h]

/-- LANE_STATUS, bit by bit (R179, Table 10-4). -/
theorem toNat_laneStatus {x : Lane} (hcount : x.integrityCount ≤ 3) :
    x.status.toNat = x.gate.code + 4 * x.activity.code + 16 * x.integrityCount + (if x.latched = true then 64 else 0) +
      (if x.configured = true then 128 else 0) := by
  have hgate : x.gate.code < 2 ^ 2 := by cases x.gate <;> decide
  have hactivity : x.activity.code < 2 ^ 2 := by cases x.activity <;> decide
  have h := wordHolds_field hgate (by decide)
  have h := wordHolds_or_field h 2 hactivity (by decide) (by decide)
  have h := wordHolds_or_field h 4 (m := 2) (Nat.lt_succ_of_le hcount) (by decide) (by decide)
  have h := wordHolds_or_flag h x.latched 6 (by decide) (by decide)
  have h := wordHolds_or_flag h x.configured 7 (by decide) (by decide)
  rw [Lane.status, h.1, ← toNat_flag, ← toNat_flag]
  omega

theorem busReads_laneStatus (s : State) (l : LaneIx) : s.busReads (BitVec.ofNat 7 (0x58 + l.val)) = (s.lane l).status := by
  fin_cases l <;> rfl

/-- Settles O50: the lane that CONFIGURE LANE writes, by its Mode, and LANE_STATUS. -/
theorem configureLaneWritesTheConfiguration : Obligations.ConfigureLaneWritesTheConfiguration := by
  refine ⟨fun s l w hready hw hindex hgate hunused hdivider hrecovery => ?_, fun s l hcount => ?_, rfl, rfl, idleLevels_idlePins⟩
  · obtain rfl := LaneStaging.laidOut_iff.mp hw
    refine ⟨_, exec_configureLane_of_accepted hready hindex hgate hunused hdivider hrecovery, fun hmode => ?_, fun hmode => ?_,
      fun j hj => ?_, ?_, rfl, rfl⟩
    · rw [lane_recordResult, lane_setLane, if_pos rfl, configuredLane_of_select hmode]
    · rw [lane_recordResult, lane_setLane, if_pos rfl, configuredLane_of_addressed hmode]
    · rw [lane_recordResult, lane_setLane, if_neg hj, lane_latch]
    · simp [State.latch, hready]
  · rw [busReads_laneStatus, toNat_laneStatus hcount]

end Sys2Proof.Machine

/-! The snapshot window (O43): SNAPSHOT DUTY and SNAPSHOT TARGET, as the host reads them word by word (R19, R20, R111, R181). -/

namespace Sys2Proof.Machine

-- The words of a snapshot

/-- Word `k` of a snapshot. -/
def Snapshot.word (x : Snapshot) (k : Nat) : Word := x.words.toList.getD k 0

theorem busReads_snapshot (s : State) {k : Nat} (hk : k < 16) : s.busReads (BitVec.ofNat 7 (0x28 + k)) = s.port.snapshot.word k := by
  interval_cases k <;> rfl

theorem epochOfWords_optEpochWord {a b c : Word} (e : Option Epoch) (ha : a = optEpochWord e 0) (hb : b = optEpochWord e 1)
    (hc : c = optEpochWord e 2) : epochOfWords a b c = e.getD 0 := by
  rw [ha, hb, hc]
  cases e with
  | none => decide
  | some v => exact epochOfWords_epochWord v

/-- Two bytes in a word. -/
theorem twoBytes_eq {a b : Nat} (ha : a < 2 ^ 8) (hb : b < 2 ^ 8) :
    fieldAt a 0 ||| fieldAt b 8 = BitVec.ofNat 16 (a + 256 * b) := by
  have h := wordHolds_or_field (wordHolds_field ha (by decide)) 8 hb (by decide) (by decide)
  refine BitVec.eq_of_toNat_eq ?_
  rw [h.1, BitVec.toNat_ofNat]
  omega

theorem toNat_twoBytes {a b : Nat} (ha : a < 2 ^ 8) (hb : b < 2 ^ 8) :
    (fieldAt a 0 ||| fieldAt b 8).toNat = a + 256 * b := by
  rw [(wordHolds_or_field (wordHolds_field ha (by decide)) 8 hb (by decide) (by decide)).1]
  omega

theorem fieldAt_eq (x n : Nat) : fieldAt x n = BitVec.ofNat 16 (2 ^ n * x) := by
  rw [fieldAt, Nat.mul_comm]

theorem toNat_halves (x : BitVec 32) : (x.extractLsb' 0 16).toNat + 65536 * (x.extractLsb' 16 16).toNat = x.toNat := by
  have := x.isLt
  simp only [BitVec.extractLsb'_toNat, Nat.shiftRight_eq_div_pow]
  omega

-- The status word of a duty

/-- The number of word 1 of a duty's copy. -/
theorem toNat_dutySnapshot_one (d : DutyIx) (x : Duty) :
    ((dutySnapshot d x).word 1).toNat = x.state.code + x.catchUp.toNat * 16 + x.forced.toNat * 32 + x.overdue.toNat * 64 +
      x.ticket.toNat * 128 + x.inFlight.toNat * 256 + x.retirePending.toNat * 512 + x.nextBoundary.isSome.toNat * 1024 +
      x.backoffUntil.isSome.toNat * 2048 := by
  have hstate : x.state.code < 2 ^ 3 := by cases x.state <;> decide
  have h := wordHolds_field hstate (by decide)
  have h := wordHolds_or_flag h x.catchUp 4 (by decide) (by decide)
  have h := wordHolds_or_flag h x.forced 5 (by decide) (by decide)
  have h := wordHolds_or_flag h x.overdue 6 (by decide) (by decide)
  have h := wordHolds_or_flag h x.ticket 7 (by decide) (by decide)
  have h := wordHolds_or_flag h x.inFlight 8 (by decide) (by decide)
  have h := wordHolds_or_flag h x.retirePending 9 (by decide) (by decide)
  have h := wordHolds_or_flag h x.nextBoundary.isSome 10 (by decide) (by decide)
  have h := wordHolds_or_flag h x.backoffUntil.isSome 11 (by decide) (by decide)
  exact h.1

theorem toNat_le_one (b : Bool) : b.toNat ≤ 1 := Bool.toNat_le b

/-- Word 1 of a duty's copy, bit by bit (Table 10-6). -/
theorem dutySnapshot_status {w : Word} {d : DutyIx} {x : Duty} (hw : w = (dutySnapshot d x).word 1) :
    w.toNat % 8 = x.state.code ∧ w.getLsbD 3 = false ∧ w.getLsbD 4 = x.catchUp ∧ w.getLsbD 5 = x.forced ∧
      w.getLsbD 6 = x.overdue ∧ w.getLsbD 7 = x.ticket ∧ w.getLsbD 8 = x.inFlight ∧ w.getLsbD 9 = x.retirePending ∧
      w.getLsbD 10 = x.nextBoundary.isSome ∧ w.getLsbD 11 = x.backoffUntil.isSome ∧ w.toNat / 4096 = 0 := by
  have hnum := toNat_dutySnapshot_one d x
  rw [← hw] at hnum
  have hstate : x.state.code < 8 := by cases x.state <;> decide
  have := toNat_le_one x.catchUp
  have := toNat_le_one x.forced
  have := toNat_le_one x.overdue
  have := toNat_le_one x.ticket
  have := toNat_le_one x.inFlight
  have := toNat_le_one x.retirePending
  have := toNat_le_one x.nextBoundary.isSome
  have := toNat_le_one x.backoffUntil.isSome
  refine ⟨by omega, getLsbD_of_digit (b := false) ?_, getLsbD_of_digit ?_, getLsbD_of_digit ?_, getLsbD_of_digit ?_,
    getLsbD_of_digit ?_, getLsbD_of_digit ?_, getLsbD_of_digit ?_, getLsbD_of_digit ?_, getLsbD_of_digit ?_, by omega⟩
  · rw [Bool.toNat_false]
    omega
  all_goals omega

-- The status word of a target

/-- Word 1 of a target's copy, bit by bit (Table 10-6). -/
theorem targetSnapshot_status {w : Word} {g : TargetIx} {x : Target} {naming catchUps : Nat}
    (hw : w = (targetSnapshot g x naming catchUps).word 1) :
    w.toNat % 8 = x.holdState.code ∧ w.getLsbD 3 = false ∧ w.toNat / 16 % 8 = x.holdTransaction.code ∧ w.getLsbD 7 = false ∧
      w.toNat / 256 % 4 = x.deadlineKind.code ∧ w.getLsbD 10 = x.releasePending ∧ w.getLsbD 11 = x.heldSince.isSome ∧
      w.toNat / 4096 = x.holdAttempts % 16 := by
  have hstate : x.holdState.code < 2 ^ 3 := by cases x.holdState <;> decide
  have htxn : x.holdTransaction.code < 2 ^ 3 := by cases x.holdTransaction <;> decide
  have hkind : x.deadlineKind.code < 2 ^ 2 := by cases x.deadlineKind <;> decide
  have h := wordHolds_field hstate (by decide)
  have h := wordHolds_or_field h 4 htxn (by decide) (by decide)
  have h := wordHolds_or_field h 8 hkind (by decide) (by decide)
  have h := wordHolds_or_flag h x.releasePending 10 (by decide) (by decide)
  have h := wordHolds_or_flag h x.heldSince.isSome 11 (by decide) (by decide)
  have hnum : w.toNat = _ := (congrArg BitVec.toNat hw).trans (toNat_or_topField h x.holdAttempts 12 (by decide) (by decide))
  have := toNat_le_one x.releasePending
  have := toNat_le_one x.heldSince.isSome
  refine ⟨by omega, getLsbD_of_digit (b := false) ?_, by omega, getLsbD_of_digit (b := false) ?_, by omega, getLsbD_of_digit ?_,
    getLsbD_of_digit ?_, by omega⟩
  · rw [Bool.toNat_false]
    omega
  · rw [Bool.toNat_false]
    omega
  · omega
  · omega

theorem countP_allDuties_lt (p : DutyIx → Bool) : allDuties.countP p < 2 ^ 8 :=
  lt_of_le_of_lt (List.countP_le_length (p := p)) (by rw [allDuties, List.length_finRange]; decide)

-- The commands

/-- The state after SNAPSHOT DUTY took its copy, before the Clear option (R19). -/
def State.snapped (s : State) (x : Snapshot) : State := { s with port := { s.port with snapshot := x } }

theorem exec_snapshotDuty_of_index {s : State} {d : DutyIx} (hready : s.port.state = .ready)
    (hindex : stagedIndex s.port.staging = d.val) :
    exec .snapshotDuty s =
      .next ((if stagedClear s.port.staging = true then
          ((s.latch 0x08).snapped (dutySnapshot d (s.duty d))).setDuty d { s.duty d with completions := 0, misses := 0 }
        else (s.latch 0x08).snapped (dutySnapshot d (s.duty d))).recordResult .done) :=
  exec_of_answer_done (owner := answerSnapshotDuty) rfl hready (withDuty_of_index hindex _)

theorem exec_snapshotTarget_of_index {s : State} {g : TargetIx} (hready : s.port.state = .ready)
    (hindex : stagedIndex s.port.staging = g.val) :
    exec .snapshotTarget s =
      .next (((s.latch 0x14).snapped (targetSnapshot g (s.target g) (s.namingCount g) (s.catchUpCount g))).recordResult .done) :=
  exec_of_answer_done (owner := answerSnapshotTarget) rfl hready (withTarget_of_index hindex _)

/-- The words that the host reads after a copy. -/
theorem busReads_of_snapshot {t : State} {x : Snapshot} (h : t.port.snapshot = x) (k : Nat) (hk : k < 16) :
    t.busReads (BitVec.ofNat 7 (0x28 + k)) = x.word k := by
  rw [busReads_snapshot t hk, h]

theorem snapshotDuty_words {t : State} {d : DutyIx} {x : Duty} (h : t.port.snapshot = dutySnapshot d x) :
    t.busReads 0x28 = BitVec.ofNat 16 (1 + 256 * d.val) ∧
      t.busReads 0x2A = BitVec.ofInt 16 x.owed ∧
      t.busReads 0x2B = BitVec.ofNat 16 x.attempts ||| BitVec.ofNat 16 (16 * x.busyCount) |||
        BitVec.ofNat 16 (256 * x.lastOutcome.code) ∧
      t.busReads 0x2C = BitVec.ofNat 16 x.defn.target.val ||| BitVec.ofNat 16 (256 * x.defn.shareGroup) ∧
      epochOfWords (t.busReads 0x2D) (t.busReads 0x2E) (t.busReads 0x2F) = x.nextBoundary.getD 0 ∧
      epochOfWords (t.busReads 0x30) (t.busReads 0x31) (t.busReads 0x32) = x.backoffUntil.getD 0 ∧
      (t.busReads 0x33).toNat + 65536 * (t.busReads 0x34).toNat = x.completions.toNat ∧
      t.busReads 0x35 = BitVec.ofNat 16 x.misses ∧ t.busReads 0x36 = 0 ∧ t.busReads 0x37 = 0 := by
  have hword := busReads_of_snapshot h
  refine ⟨(hword 0 (by decide)).trans (twoBytes_eq (by decide) (lt_trans d.isLt (by decide))), hword 2 (by decide),
    (hword 3 (by decide)).trans ?_, (hword 4 (by decide)).trans ?_,
    epochOfWords_optEpochWord _ (hword 5 (by decide)) (hword 6 (by decide)) (hword 7 (by decide)),
    epochOfWords_optEpochWord _ (hword 8 (by decide)) (hword 9 (by decide)) (hword 10 (by decide)), ?_, hword 13 (by decide),
    hword 14 (by decide), hword 15 (by decide)⟩
  · show fieldAt x.attempts 0 ||| fieldAt x.busyCount 4 ||| fieldAt x.lastOutcome.code 8 = _
    rw [fieldAt_eq, fieldAt_eq, fieldAt_eq, pow_zero, one_mul]
    rfl
  · show fieldAt x.defn.target.val 0 ||| fieldAt x.defn.shareGroup 8 = _
    rw [fieldAt_eq, fieldAt_eq, pow_zero, one_mul]
    rfl
  · have hlow : t.busReads 0x33 = x.completions.extractLsb' 0 16 := hword 11 (by decide)
    have hhigh : t.busReads 0x34 = x.completions.extractLsb' 16 16 := hword 12 (by decide)
    rw [hlow, hhigh, toNat_halves]

theorem snapshotTarget_words {t : State} {g : TargetIx} {x : Target} {naming catchUps : Nat}
    (h : t.port.snapshot = targetSnapshot g x naming catchUps) (hnaming : naming < 2 ^ 8) (hcatch : catchUps < 2 ^ 8) :
    t.busReads 0x28 = BitVec.ofNat 16 (2 + 256 * g.val) ∧
      t.busReads 0x2A = BitVec.ofNat 16 (x.defn.lane.val + 256 * x.defn.address.toNat) ∧
      epochOfWords (t.busReads 0x2B) (t.busReads 0x2C) (t.busReads 0x2D) = x.heldSince.getD 0 ∧
      epochOfWords (t.busReads 0x2E) (t.busReads 0x2F) (t.busReads 0x30) = x.deadline.getD 0 ∧
      t.busReads 0x31 = 0 ∧ t.busReads 0x32 = 0 ∧ t.busReads 0x33 = 0 ∧ t.busReads 0x34 = 0 ∧ t.busReads 0x35 = 0 ∧
      (t.busReads 0x36).toNat = naming + 256 * catchUps ∧ t.busReads 0x37 = 0 := by
  have hword := busReads_of_snapshot h
  exact ⟨(hword 0 (by decide)).trans (twoBytes_eq (by decide) (lt_trans g.isLt (by decide))),
    (hword 2 (by decide)).trans (twoBytes_eq (lt_trans x.defn.lane.isLt (by decide)) x.defn.address.isLt),
    epochOfWords_optEpochWord _ (hword 3 (by decide)) (hword 4 (by decide)) (hword 5 (by decide)),
    epochOfWords_optEpochWord _ (hword 6 (by decide)) (hword 7 (by decide)) (hword 8 (by decide)),
    hword 9 (by decide), hword 10 (by decide), hword 11 (by decide), hword 12 (by decide), hword 13 (by decide),
    (congrArg BitVec.toNat (hword 14 (by decide))).trans (toNat_twoBytes hnaming hcatch), hword 15 (by decide)⟩

/-- Settles O43: the copies word by word, and what the two commands change beside them. -/
theorem snapshotsShowTheRecord : Obligations.SnapshotsShowTheRecord := by
  refine ⟨⟨rfl, rfl, rfl, rfl, rfl, epochOfWords_toNat⟩, fun s d hready hindex => ?_, fun s g hready hindex => ?_⟩
  · refine ⟨_, exec_snapshotDuty_of_index hready hindex, ?_⟩
    generalize ht : (ite (stagedClear s.port.staging = true) _ _ : State).recordResult .done = t
    have hport : t.port = { s.port with
        latched := s.port.staging, code := 0x08, result := .done, snapshot := dutySnapshot d (s.duty d) } := by
      rw [← ht]
      split <;> simp [State.snapped, State.latch, State.recordResult, hready]
    have hsnap : t.port.snapshot = dutySnapshot d (s.duty d) := by rw [hport]
    obtain ⟨h28, h2A, h2B, h2C, hnext, hbackoff, hdone, h35, h36, h37⟩ := snapshotDuty_words hsnap
    obtain ⟨hstate, h3, h4, h5, h6, h7, h8, h9, h10, h11, htop⟩ :=
      dutySnapshot_status (busReads_of_snapshot hsnap 1 (by decide))
    refine ⟨h28, hstate, h3, h4, h5, h6, h7, h8, h9, h10, h11, htop, h2A, h2B, h2C, hnext, hbackoff, hdone, h35, h36, h37, ?_⟩
    refine ⟨by rw [hsnap]; rfl, by rw [hsnap]; exact hport, ?_, ?_, fun e he => ?_, ?_⟩
    · rw [← ht]
      split <;> rfl
    · rw [← ht]
      split
      · rw [duty_recordResult, duty_setDuty, if_pos rfl]
      · rfl
    · rw [← ht]
      split
      · rw [duty_recordResult, duty_setDuty, if_neg he]
        rfl
      · rfl
    · rw [← ht]
      split <;> rfl
  · refine ⟨_, exec_snapshotTarget_of_index hready hindex, ?_⟩
    generalize ht : State.recordResult _ .done = t
    have hport : t.port = { s.port with
        latched := s.port.staging, code := 0x14, result := .done
        snapshot := targetSnapshot g (s.target g) (s.namingCount g) (s.catchUpCount g) } := by
      rw [← ht]
      simp [State.snapped, State.latch, State.recordResult, hready]
    have hsnap : t.port.snapshot = targetSnapshot g (s.target g) (s.namingCount g) (s.catchUpCount g) := by rw [hport]
    obtain ⟨h28, h2A, hsince, hdeadline, h31, h32, h33, h34, h35, h36, h37⟩ :=
      snapshotTarget_words hsnap (countP_allDuties_lt _) (countP_allDuties_lt _)
    obtain ⟨hstate, h3, htxn, h7, hkind, h10, h11, htop⟩ := targetSnapshot_status (busReads_of_snapshot hsnap 1 (by decide))
    refine ⟨h28, hstate, h3, htxn, h7, hkind, h10, h11, htop, h2A, hsince, hdeadline, h31, h32, h33, h34, h35, h36, h37, ?_⟩
    refine ⟨by rw [hsnap]; rfl, by rw [hsnap]; exact hport, ?_, ?_⟩
    · rw [← ht]
      rfl
    · rw [← ht]
      rfl

end Sys2Proof.Machine

/-! The time base, cycle by cycle: ticks (O17), windows and ends of parts (O18), and the number of parts of a window (O19). -/

namespace Sys2Proof.Machine

-- One REFCLK cycle (R142 to R144)

/-- The window of a cycle: the next one starts, or this one goes on (R143). -/
def TimeBase.windowAfter (t : TimeBase) : TimeBase :=
  if t.startsWindow = true then t.startWindow else { t with position := t.position + 1 }

/-- The adjustment due at the end of a cycle, before a tick takes it (R144). -/
def TimeBase.adjusted (t : TimeBase) : Adjustment :=
  if t.endsPart = true then (if 0 < t.trimInForce then .remove else .insert) else t.adjustment

section

variable {t : TimeBase}

theorem cycle_of_goesOn (h : ¬t.completesTick = true) :
    t.cycle = { t.windowAfter with phase := t.phase + 1, adjustment := t.adjusted } := by
  unfold TimeBase.cycle TimeBase.windowAfter TimeBase.adjusted
  dsimp only
  rw [if_neg h]
  split <;> split <;> rfl

theorem cycle_of_completes (h : t.completesTick = true) :
    t.cycle =
      { t.windowAfter with
        phase := 0, adjustment := .none, epoch := nextEpoch t.epoch, tickLength := t.adjusted.tickLength } := by
  unfold TimeBase.cycle TimeBase.windowAfter TimeBase.adjusted
  dsimp only
  rw [if_pos h]
  split <;> split <;> rfl

theorem adjusted_of_not_endsPart (h : t.endsPart = false) : t.adjusted = t.adjustment := by
  rw [TimeBase.adjusted, h]
  rfl

theorem adjusted_of_endsPart (h : t.endsPart = true) : t.adjusted = if 0 < t.trimInForce then .remove else .insert := by
  rw [TimeBase.adjusted, if_pos h]

theorem adjustment_windowAfter : t.windowAfter.adjustment = t.adjustment := by
  unfold TimeBase.windowAfter
  split <;> rfl

theorem startsWindow_iff : t.startsWindow = true ↔ t.windowInForce.cycles ≤ t.position + 1 := by
  rw [TimeBase.startsWindow, decide_eq_true_eq]

theorem completesTick_iff : t.completesTick = true ↔ t.tickLength ≤ t.phase + 1 := by
  rw [TimeBase.completesTick, decide_eq_true_eq]

/-- The window of a cycle, as the statements give it. -/
theorem eq_windowAfter {w : TimeBase} (hsound : t.sound)
    (hgoes : t.position + 1 < t.windowInForce.cycles → w = { t with position := t.position + 1 })
    (hstarts : t.position + 1 = t.windowInForce.cycles →
      w = { t with
        position := 0, windowInForce := t.writtenWindow, trimInForce := t.writtenTrim
        partLength := if t.writtenTrim = 0 then 0 else t.writtenWindow.cycles / t.writtenTrim.natAbs }) :
    w = t.windowAfter := by
  obtain ⟨_, _, hposition, _⟩ := hsound
  rw [TimeBase.windowAfter]
  split
  · next h =>
    rw [startsWindow_iff] at h
    exact hstarts (by omega)
  · next h =>
    rw [startsWindow_iff] at h
    exact hgoes (by omega)

theorem toNat_nextEpoch (e : Epoch) : (nextEpoch e).toNat = min (e.toNat + 1) (2 ^ 48 - 1) := by
  have hlt := e.isLt
  have hmax : Config.epochMax = 281474976710655 := rfl
  unfold nextEpoch
  split
  · rw [BitVec.toNat_ofNat]
    omega
  · omega

theorem epoch_cycle : t.cycle.epoch = if t.completesTick = true then nextEpoch t.epoch else t.epoch := by
  split
  · next h => rw [cycle_of_completes h]
  · next h =>
    rw [cycle_of_goesOn h]
    show t.windowAfter.epoch = t.epoch
    unfold TimeBase.windowAfter
    split <;> rfl

end

-- The state after a cycle

section

variable {s : State}

theorem refclkCycle_of_goesOn (h : ¬s.time.completesTick = true) : s.refclkCycle = { s with time := s.time.cycle } := by
  rw [State.refclkCycle, if_neg h]

theorem refclkCycle_of_completes (h : s.time.completesTick = true) :
    s.refclkCycle = State.markTick { s with time := s.time.cycle } := by
  rw [State.refclkCycle, if_pos h]

theorem refclkCycle_beside (s : State) : { s.refclkCycle with time := s.time, records := s.records } = s := by
  unfold State.refclkCycle
  dsimp only
  split <;> rfl

theorem record_refclkCycle (h : s.time.completesTick = true) (l : LaneIx) :
    s.refclkCycle.record l =
      if (s.lane l).clockHeld = true then s.record l else (s.record l).map fun r => { r with tickSinceRead := true } := by
  rw [refclkCycle_of_completes h, record_markTick]
  rfl

theorem exec_tickCompletion_of (h : s.time.completesTick = true) : exec .tickCompletion s = .next s.refclkCycle := by
  show execTickCompletion s = _
  rw [execTickCompletion, if_pos h]

theorem exec_windowStart_of (h : s.time.startsWindow = true) : exec .windowStart s = .next s.refclkCycle := by
  show execWindowStart s = _
  rw [execWindowStart, if_pos h]

theorem exec_partEnd_of (h : s.time.endsPart = true) : exec .partEnd s = .next s.refclkCycle := by
  show execPartEnd s = _
  rw [execPartEnd, if_pos h]

/-- A cycle at which a tick completes (R142, R146). -/
theorem refclkCycle_completes (h : s.time.completesTick = true) :
    s.refclkCycle.time = { s.time.windowAfter with
        phase := 0, adjustment := .none, epoch := s.refclkCycle.time.epoch, tickLength := s.time.adjusted.tickLength } ∧
      s.refclkCycle.time.epoch.toNat = min (s.time.epoch.toNat + 1) (2 ^ 48 - 1) := by
  have htime : s.refclkCycle.time = s.time.cycle := time_refclkCycle s
  rw [htime]
  refine ⟨?_, ?_⟩
  · rw [epoch_cycle, if_pos h]
    exact cycle_of_completes h
  · rw [epoch_cycle, if_pos h, toNat_nextEpoch]

end

-- What moves the epoch (R146, R149, R150)

theorem epoch_busWrite (s : State) (reg : BitVec 7) (v : Word) : (s.busWrite reg v).time.epoch = s.time.epoch := by
  have hwindow (t : TimeBase) : (t.writeWindow v).epoch = t.epoch := by
    unfold TimeBase.writeWindow
    split <;> rfl
  unfold State.busWrite
  dsimp only
  split_ifs
  · rw [(writeCommand_keeps s _).1]
  · rfl
  · rw [time_writeStaging]
  · rfl
  · rfl
  · rfl
  · rfl
  · exact hwindow s.time
  · rfl

theorem epoch_exec {c : Instr} (hpower : c ≠ .powerOn)
    (hcycle : ¬(c = .refclkCycle ∨ c = .tickCompletion ∨ c = .windowStart ∨ c = .partEnd)) (s : State) :
    ∃ t, exec c s = .next t ∧ t.time.epoch = s.time.epoch := by
  cases c with
  | powerOn => exact absurd rfl hpower
  | refclkCycle | tickCompletion | windowStart | partEnd => simp at hcycle
  | defineDuty | startDuty | stopDuty | retireDuty | reviveDuty | setOwed | prodDuty | snapshotDuty
  | defineTarget | dropTarget | holdTarget | releaseTarget | snapshotTarget
  | configureLane | openLane | closeLane | blackoutLane | resumeLane | clearSuspect | abort | schedulerReset =>
    exact ⟨_, exec_of_code rfl s, by rw [(writeCommand_keeps s _).1]⟩
  | unknownCode code | commandDiscarded code => exact ⟨_, rfl, by rw [(writeCommand_keeps s code).1]⟩
  | portClear v | incidentPop v | eventSummaryWrite v | eventEnableWrite v | trimValueWrite v | epochLoRead | reset =>
    exact ⟨_, rfl, rfl⟩
  | trimWindowWrite v => exact ⟨_, rfl, epoch_busWrite s 0x54 v⟩
  | registerWrite reg v => exact ⟨_, rfl, epoch_busWrite s reg v⟩
  | clockLineRelease l => exact ⟨_, rfl, rfl⟩
  | boundary i | startTime i | stopTime i | backoffEnd i | quietEnd i | blackoutEnd i | autoResume i
  | minimumHoldEnd i | maximumHoldEnd i | settleEnd i | statusRead i v | dataByte i v | checkByte i v
  | addressNotAcknowledged i | requestByteRefused i =>
    refine ⟨_, rfl, ?_⟩
    split <;> simp
  | responseDeadline l =>
    refine ⟨_, rfl, ?_⟩
    split
    · split <;> simp
    · rfl
  | clockLineHold l =>
    refine ⟨_, rfl, ?_⟩
    split
    · split <;> simp
    · rfl

theorem epoch_of_cycle (t : TimeBase) : t.cycle.epoch = t.epoch ∨ t.cycle.epoch.toNat = t.epoch.toNat + 1 := by
  rw [epoch_cycle]
  split
  · by_cases hmax : t.epoch.toNat < Config.epochMax
    · refine .inr ?_
      have hbound : Config.epochMax = 2 ^ 48 - 1 := rfl
      rw [toNat_nextEpoch]
      omega
    · exact .inl (by rw [nextEpoch, if_neg hmax])
  · exact .inl rfl

/-- A row of the time base leaves the time as it was, or takes a whole cycle. -/
theorem time_of_cycleRow {c : Instr} {s t : State}
    (hcycle : c = .refclkCycle ∨ c = .tickCompletion ∨ c = .windowStart ∨ c = .partEnd) (hexec : exec c s = .next t) :
    t.time = s.time ∨ t.time = s.time.cycle := by
  have hcond (b : Bool) (h : exec c s = .next (if b = true then s.refclkCycle else s)) :
      t.time = s.time ∨ t.time = s.time.cycle := by
    obtain rfl := Host.Outcome.next.inj (h.symm.trans hexec)
    split
    · exact .inr (time_refclkCycle s)
    · exact .inl rfl
  rcases hcycle with rfl | rfl | rfl | rfl
  · exact hcond true rfl
  · exact hcond _ rfl
  · exact hcond _ rfl
  · exact hcond _ rfl

theorem epoch_moves {c : Instr} {s t : State} (hpower : c ≠ .powerOn) (hexec : exec c s = .next t) :
    t.time.epoch = s.time.epoch ∨
      (t.time.epoch.toNat = s.time.epoch.toNat + 1 ∧
        (c = .refclkCycle ∨ c = .tickCompletion ∨ c = .windowStart ∨ c = .partEnd)) := by
  by_cases hcycle : c = .refclkCycle ∨ c = .tickCompletion ∨ c = .windowStart ∨ c = .partEnd
  · rcases time_of_cycleRow hcycle hexec with h | h
    · exact .inl (by rw [h])
    · rw [h]
      exact (epoch_of_cycle s.time).imp id fun hrises => ⟨hrises, hcycle⟩
  · obtain ⟨u, hu, hepoch⟩ := epoch_exec hpower hcycle s
    obtain rfl := Host.Outcome.next.inj (hu.symm.trans hexec)
    exact .inl hepoch

/-- Settles O17: a cycle that ends no part, and what moves the epoch. -/
theorem refclkCycleCountsTicks : Obligations.RefclkCycleCountsTicks := by
  refine ⟨fun s w hsound hpart hgoes hstarts => ?_, fun s h => ?_, fun c s t hpower hexec => epoch_moves hpower hexec⟩
  · obtain rfl := eq_windowAfter hsound hgoes hstarts
    have hadjusted := adjusted_of_not_endsPart hpart
    refine ⟨fun h => ?_, fun h => ?_⟩
    · have hnot : ¬s.time.completesTick = true := by rw [completesTick_iff]; omega
      show Host.Outcome.next s.refclkCycle = _
      rw [refclkCycle_of_goesOn hnot, cycle_of_goesOn hnot, hadjusted, ← adjustment_windowAfter]
    · have hcompletes : s.time.completesTick = true := by rw [completesTick_iff]; omega
      obtain ⟨htime, hepoch⟩ := refclkCycle_completes hcompletes
      have hlength : s.refclkCycle.time.tickLength = s.time.adjustment.tickLength := by rw [htime, hadjusted]
      refine ⟨s.refclkCycle, rfl, exec_tickCompletion_of hcompletes, ?_, hepoch, fun hadj => ?_, fun hadj => ?_, fun hadj => ?_,
        record_refclkCycle hcompletes, refclkCycle_beside s⟩
      · rw [hlength, ← hadjusted]
        exact htime
      · rw [hlength, hadj]
        rfl
      · rw [hlength, hadj]
        rfl
      · rw [hlength, hadj]
        rfl
  · exact exec_tickCompletion_of (by rw [completesTick_iff]; omega)

-- Parts of a window (R143, R144)

/-- The last cycles of the parts of a window. -/
theorem endsPart_iff (t : TimeBase) :
    t.endsPart = true ↔ ∃ k, 1 ≤ k ∧ k ≤ t.trimInForce.natAbs ∧ t.position + 1 = k * t.partLength := by
  rw [TimeBase.endsPart, decide_eq_true_eq]
  constructor
  · rintro ⟨_, hlength, hdiv, hle⟩
    have hsplit := Nat.div_add_mod (t.position + 1) t.partLength
    rw [hdiv, Nat.add_zero, Nat.mul_comm] at hsplit
    refine ⟨(t.position + 1) / t.partLength, ?_, hle, hsplit.symm⟩
    by_contra hzero
    have : (t.position + 1) / t.partLength = 0 := Nat.eq_zero_of_not_pos hzero
    rw [this, Nat.zero_mul] at hsplit
    omega
  · rintro ⟨k, hk, hle, hposition⟩
    have hlength : 0 < t.partLength := by
      rcases Nat.eq_zero_or_pos t.partLength with h | h
      · rw [h, Nat.mul_zero] at hposition
        omega
      · exact h
    refine ⟨by omega, by omega, ?_, ?_⟩
    · rw [hposition, Nat.mul_mod_left]
    · rwa [hposition, Nat.mul_div_cancel _ hlength]

/-- Settles O18: the row of a window start and that of the end of a part are the whole cycle. -/
theorem windowStartAndPartEnd : Obligations.WindowStartAndPartEnd := by
  refine ⟨fun s hsound hposition => ?_, fun s k w hsound hk hle hposition hgoes hstarts => ?_⟩
  · have hstarts : s.time.startsWindow = true := by rw [startsWindow_iff]; omega
    have hwindow : s.time.windowAfter = s.time.startWindow := by rw [TimeBase.windowAfter, if_pos hstarts]
    have hfields : s.time.cycle.position = 0 ∧ s.time.cycle.windowInForce = s.time.writtenWindow ∧
        s.time.cycle.trimInForce = s.time.writtenTrim ∧
        s.time.cycle.partLength = partLengthOf s.time.writtenWindow s.time.writtenTrim := by
      by_cases hcompletes : s.time.completesTick = true
      · rw [cycle_of_completes hcompletes, hwindow]
        exact ⟨rfl, rfl, rfl, rfl⟩
      · rw [cycle_of_goesOn hcompletes, hwindow]
        exact ⟨rfl, rfl, rfl, rfl⟩
    obtain ⟨hzero, hforce, htrim, hlength⟩ := hfields
    have htime : s.refclkCycle.time = s.time.cycle := time_refclkCycle s
    rw [← htime] at hzero hforce htrim hlength
    refine ⟨s.refclkCycle, exec_windowStart_of hstarts, rfl, hzero, hforce, htrim, fun h => ?_, fun h => ?_, refclkCycle_beside s⟩
    · rw [hlength, partLengthOf, if_pos h]
    · rw [hlength, partLengthOf, if_neg h]
  · obtain rfl := eq_windowAfter hsound hgoes hstarts
    have hends : s.time.endsPart = true := (endsPart_iff s.time).mpr ⟨k, hk, hle, hposition⟩
    have hadjusted := adjusted_of_endsPart hends
    refine ⟨s.refclkCycle, exec_partEnd_of hends, rfl, fun h => ?_, fun h => ?_, refclkCycle_beside s⟩
    · have hnot : ¬s.time.completesTick = true := by rw [completesTick_iff]; omega
      rw [refclkCycle_of_goesOn hnot, cycle_of_goesOn hnot, hadjusted]
    · have hcompletes : s.time.completesTick = true := by rw [completesTick_iff]; omega
      obtain ⟨htime, hepoch⟩ := refclkCycle_completes hcompletes
      have hlength : s.time.adjusted.tickLength = if 0 < s.time.trimInForce then 3 else 5 := by
        rw [hadjusted]
        split <;> rfl
      rw [hlength] at htime
      exact ⟨htime, hepoch, record_refclkCycle hcompletes⟩

/-- A part is not empty, and the parts of a window fit in it (R143, Table 7-1). -/
theorem parts_fit {t : TimeBase} (hsound : t.sound) (htrim : t.trimInForce ≠ 0) :
    0 < t.partLength ∧ t.trimInForce.natAbs * t.partLength ≤ t.windowInForce.cycles := by
  obtain ⟨_, _, _, ⟨hlow, hhigh⟩, _, hlength⟩ := hsound
  rw [partLengthOf, if_neg htrim] at hlength
  have hcycles : 1024 ≤ t.windowInForce.cycles := by cases t.windowInForce <;> decide
  refine ⟨?_, ?_⟩
  · rw [hlength]
    exact Nat.div_pos (by omega) (by omega)
  · rw [hlength]
    exact Nat.mul_div_le _ _

/-- The positions of the last cycles of parts are those before the multiples of the part length. -/
theorem endsPart_positions {t : TimeBase} (hsound : t.sound) :
    Finset.filter (fun p => TimeBase.endsPart { t with position := p } = true) (Finset.range t.windowInForce.cycles) =
      (Finset.Icc 1 t.trimInForce.natAbs).image fun k => k * t.partLength - 1 := by
  ext p
  rw [Finset.mem_filter, Finset.mem_range, endsPart_iff, Finset.mem_image]
  constructor
  · rintro ⟨_, k, hk, hle, hposition⟩
    refine ⟨k, Finset.mem_Icc.mpr ⟨hk, hle⟩, ?_⟩
    have : p + 1 = k * t.partLength := hposition
    omega
  · rintro ⟨k, hmem, rfl⟩
    obtain ⟨hk, hle⟩ := Finset.mem_Icc.mp hmem
    obtain ⟨hpos, hfit⟩ := parts_fit hsound (by omega)
    have hlow : 1 * 1 ≤ k * t.partLength := Nat.mul_le_mul hk hpos
    have hhigh : k * t.partLength ≤ t.trimInForce.natAbs * t.partLength := Nat.mul_le_mul_right _ hle
    refine ⟨by omega, k, hk, hle, ?_⟩
    show k * t.partLength - 1 + 1 = k * t.partLength
    omega

/-- Settles O19: the ends of parts are in bijection with the parts. -/
theorem windowHasOneEndForEachPart : Obligations.WindowHasOneEndForEachPart := by
  refine ⟨fun t hsound => ?_, endsPart_iff, rfl, fun w trim => ⟨fun h => ?_, fun h => ?_⟩⟩
  · rw [endsPart_positions hsound, Finset.card_image_of_injOn, Nat.card_Icc, Nat.add_sub_cancel]
    intro a ha b hb heq
    obtain ⟨ha, hle⟩ := Finset.mem_Icc.mp ha
    obtain ⟨hb, _⟩ := Finset.mem_Icc.mp hb
    obtain ⟨hpos, _⟩ := parts_fit hsound (by omega)
    have hla : 1 * 1 ≤ a * t.partLength := Nat.mul_le_mul ha hpos
    have hlb : 1 * 1 ≤ b * t.partLength := Nat.mul_le_mul hb hpos
    have heq' : a * t.partLength - 1 = b * t.partLength - 1 := heq
    exact Nat.eq_of_mul_eq_mul_right hpos (by omega)
  · rw [partLengthOf, if_pos h]
  · rw [partLengthOf, if_neg h]

end Sys2Proof.Machine

/-! The failures of hold transactions (O49): what the target table makes of them (R100, R107), and the lane afterwards. -/

namespace Sys2Proof.Machine

-- What the target table makes of a failure (R100, R107)

/-- The target after a failure of its entry or of its exit. -/
def Target.afterHoldFailure (x : Target) (entry : Bool) : Target :=
  if entry = true then
    if x.releasePending = true ∨ x.defn.holdRetryLimit ≤ x.holdAttempts then
      { x with holdAttempts := x.holdAttempts + 1, releasePending := false, holdTransaction := .none, holdState := .active }
    else { x with holdAttempts := x.holdAttempts + 1, holdTransaction := .entryPending }
  else if x.defn.holdRetryLimit ≤ x.holdAttempts then strandedTarget { x with holdAttempts := x.holdAttempts + 1 }
  else { x with holdAttempts := x.holdAttempts + 1, holdTransaction := .exitPending }

/-- The incident unit after it: an incident with the retries spent, and the HOLD cause with an end of the transaction. -/
def IncidentUnit.afterHoldFailure (u : IncidentUnit) (x : Target) (entry : Bool) (i : Incident) : IncidentUnit :=
  if x.defn.holdRetryLimit ≤ x.holdAttempts then (u.pass i).setHold
  else if entry = true ∧ x.releasePending = true then u.setHold else u

/-- The incident of a failure that spends the retries (Table 5-4). -/
def State.holdFailedIncident (s : State) (l : LaneIx) (r : InFlight) (entry : Bool) (why : Reason) : Incident :=
  holdIncident s (if entry = true then .holdFailed else .stranded) l r why

theorem holdFailed_eq (s : State) (l : LaneIx) (r : InFlight) (entry : Bool) (why : Reason) :
    s.holdFailed l r entry why =
      (s.setTarget r.target ((s.target r.target).afterHoldFailure entry)).withInc
        (s.inc.afterHoldFailure (s.target r.target) entry (s.holdFailedIncident l r entry why)) := by
  have hspent : (s.target r.target).defn.holdRetryLimit < (s.target r.target).holdAttempts + 1 ↔
      (s.target r.target).defn.holdRetryLimit ≤ (s.target r.target).holdAttempts := Nat.lt_succ_iff
  have hleft : (s.target r.target).holdAttempts + 1 ≤ (s.target r.target).defn.holdRetryLimit ↔
      ¬(s.target r.target).defn.holdRetryLimit ≤ (s.target r.target).holdAttempts := by omega
  unfold State.holdFailed State.entryFailed State.exitFailed Target.afterHoldFailure IncidentUnit.afterHoldFailure
    State.holdFailedIncident
  by_cases hlimit : (s.target r.target).defn.holdRetryLimit ≤ (s.target r.target).holdAttempts
  · cases entry <;> simp [hspent, hleft, hlimit] <;> rfl
  · cases entry
    · simp [hleft, hlimit]
      rfl
    · cases hrelease : (s.target r.target).releasePending <;> simp [hspent, hlimit, hrelease] <;> rfl

-- The end of a hold transaction

/-- The record is that of an entry; otherwise of an exit. -/
def InFlight.isEntry (r : InFlight) : Bool := r.kind = .holdEntry

section

variable {s z : State} {l : LaneIx} {held : Bool} {q : Option InFlight} {r : InFlight} {o : Outcome} {good : Bool}
  {why : Reason}

theorem ownerTakes_hold (hkind : r.kind = .holdEntry ∨ r.kind = .holdExit) :
    s.ownerTakes l r o = s.holdOutcome l r r.isEntry o := by
  rcases hkind with hkind | hkind <;> simp [State.ownerTakes, InFlight.isEntry, hkind]

/-- The outcome of a hold transaction ends with its fourth step (R72). -/
theorem takeOutcome_hold (hkind : r.kind = .holdEntry ∨ r.kind = .holdExit) :
    s.takeOutcome l r o good = (s.holdOutcome l r r.isEntry o).leftBusy l r 0 o good := by
  rw [takeOutcome_eq, ownerTakes_hold hkind]
  rcases hkind with hkind | hkind <;> simp [State.completeRetire, State.quietTimeOf, hkind]

/-- A failure as the target table takes it leaves the rest as it was (R85). -/
theorem sameBesideHold_leftBusy (hkind : r.kind = .holdEntry ∨ r.kind = .holdExit) (x : Target) (u : IncidentUnit) :
    s.sameBesideHold ((((s.reframed l held q).setTarget r.target x).withInc u).leftBusy l r 0 o good) r.target l := by
  refine ⟨fun d => by simp, fun h hh => by simp [hh], fun j => by simp, fun k => ?_, ?_, fun j hj => ⟨?_, ?_⟩, by simp, by simp,
    by simp, by simp⟩
  · rw [lock_leftBusy_hold _ _ _ _ _ _ hkind]
    simp
  · rw [record_leftBusy, if_pos rfl]
  · rw [record_leftBusy, if_neg hj, record_withInc, record_setTarget, record_reframed, if_neg hj]
  · rw [lane_leftBusy_ne _ _ _ _ _ _ hj, lane_withInc, lane_setTarget, lane_reframed, if_neg hj]

/-- What the statements say of the target and of the incident unit. -/
theorem holdFails_of_after {x : State} {u v : IncidentUnit}
    (hbeside : s.sameBesideHold x r.target l) (htarget : x.target r.target = (s.target r.target).afterHoldFailure r.isEntry)
    (hinc : v = u.afterHoldFailure (s.target r.target) r.isEntry (s.holdFailedIncident l r r.isEntry why)) :
    s.holdFails x l r why u v := by
  refine ⟨hbeside, fun hleft => ⟨fun hentry hrelease => ?_, fun hentry hrelease => ?_, fun hexit => ?_⟩,
    fun hspent => ⟨fun hentry => ?_, fun hexit => ?_⟩⟩
  · have hnot : ¬(s.target r.target).defn.holdRetryLimit ≤ (s.target r.target).holdAttempts := by omega
    rw [htarget, hinc]
    simp [Target.afterHoldFailure, IncidentUnit.afterHoldFailure, InFlight.isEntry, hentry, hrelease, hnot]
  · have hnot : ¬(s.target r.target).defn.holdRetryLimit ≤ (s.target r.target).holdAttempts := by omega
    rw [htarget, hinc]
    simp [Target.afterHoldFailure, IncidentUnit.afterHoldFailure, InFlight.isEntry, hentry, hrelease, hnot]
  · have hnot : ¬(s.target r.target).defn.holdRetryLimit ≤ (s.target r.target).holdAttempts := by omega
    rw [htarget, hinc]
    simp [Target.afterHoldFailure, IncidentUnit.afterHoldFailure, InFlight.isEntry, hexit, hnot]
  · rw [htarget, hinc]
    simp [Target.afterHoldFailure, IncidentUnit.afterHoldFailure, InFlight.isEntry, hentry, hspent, State.holdFailedIncident,
      holdIncident]
  · rw [htarget, hinc]
    simp [Target.afterHoldFailure, IncidentUnit.afterHoldFailure, InFlight.isEntry, hexit, hspent, State.holdFailedIncident,
      holdIncident, strandedTarget]

theorem sameConfig_freed (x : Lane) (n : Nat) : x.sameConfig (x.freed n) := by
  unfold Lane.sameConfig Lane.freed Lane.endFrame
  split <;> simp

/-- The lane after the outcome of a hold transaction whose owner left it, without INTEGRITY (R64, R125). -/
theorem lane_hold_of_quiet (hkind : r.kind = .holdEntry ∨ r.kind = .holdExit) {x : Lane} (hlane : z.lane l = x)
    (ho : o ≠ .integrity) :
    (z.leftBusy l r 0 o good).lane l = x.freed (if good = true then 0 else x.integrityCount) := by
  have hclock : ({ x with integrityCount := if good = true then 0 else x.integrityCount } : Lane).clockHeld = x.clockHeld := rfl
  rw [lane_leftBusy_hold _ _ _ _ _ _ hkind, hlane, Lane.reported_of_quiet _ _ ho, Lane.freed]
  by_cases hheld : x.clockHeld = true
  · rw [endFrame_of_held hheld, endFrame_of_held (hclock.trans hheld)]
    rfl
  · rw [endFrame_of_free (Bool.eq_false_iff.mpr hheld), endFrame_of_free (hclock.trans (Bool.eq_false_iff.mpr hheld))]
    rfl

/-- The lane after an INTEGRITY outcome of a hold transaction (R126). -/
theorem lane_hold_of_integrity (hkind : r.kind = .holdEntry ∨ r.kind = .holdExit) {x : Lane} (hlane : z.lane l = x) :
    (z.leftBusy l r 0 .integrity good).lane l =
      { x.freed (x.integrityCount + 1) with
        gate := .suspect, blackoutEnd := none, yielding := false, latched := (suspectedLane x z.now).latched
        recoveryEnd := (suspectedLane x z.now).recoveryEnd } := by
  have hclock : (suspectedLane x z.now).clockHeld = x.clockHeld := rfl
  rw [lane_leftBusy_hold _ _ _ _ _ _ hkind, hlane, Lane.reported_integrity, Lane.freed]
  by_cases hheld : x.clockHeld = true
  · rw [endFrame_of_held hheld, endFrame_of_held (hclock.trans hheld)]
    rfl
  · rw [endFrame_of_free (Bool.eq_false_iff.mpr hheld), endFrame_of_free (hclock.trans (Bool.eq_false_iff.mpr hheld))]
    rfl

/-- A failure other than INTEGRITY, of a frame that goes on to its end (R100, R107, R139). -/
theorem holdFails_takeOutcome (hkind : r.kind = .holdEntry ∨ r.kind = .holdExit)
    (hfails : (s.reframed l held q).holdOutcome l r r.isEntry o = (s.reframed l held q).holdFailed l r r.isEntry why)
    (ho : o ≠ .integrity) :
    s.holdFails ((s.reframed l held q).takeOutcome l r o good) l r why s.inc ((s.reframed l held q).takeOutcome l r o good).inc ∧
      ((s.reframed l held q).takeOutcome l r o good).lane l =
        Lane.freed { s.lane l with lineHeld := held } (if good = true then 0 else (s.lane l).integrityCount) := by
  rw [takeOutcome_hold hkind, hfails, holdFailed_eq]
  refine ⟨holdFails_of_after (sameBesideHold_leftBusy hkind _ _) ?_ ?_, lane_hold_of_quiet hkind ?_ ho⟩
  · rw [target_leftBusy, target_withInc, target_setTarget, if_pos rfl, target_reframed]
  · rw [inc_leftBusy, if_neg ho, inc_withInc]
    rfl
  · rw [lane_withInc, lane_setTarget, lane_reframed, if_pos rfl]

/-- A failure of the frame as it stands. -/
theorem holdFailsQuietly_takeOutcome (hkind : r.kind = .holdEntry ∨ r.kind = .holdExit)
    (hfails : (s.reframed l (s.lane l).lineHeld q).holdOutcome l r r.isEntry o =
      (s.reframed l (s.lane l).lineHeld q).holdFailed l r r.isEntry why)
    (ho : o ≠ .integrity) :
    s.holdFailsQuietly ((s.reframed l (s.lane l).lineHeld q).takeOutcome l r o good) l r why
      (if good = true then 0 else (s.lane l).integrityCount) :=
  holdFails_takeOutcome hkind hfails ho

/-- An INTEGRITY outcome (R82, R126): its incident, the target as after another failure, and the lane suspended. -/
theorem holdSuspends_takeOutcome (hkind : r.kind = .holdEntry ∨ r.kind = .holdExit) :
    s.holdSuspends ((s.reframed l (s.lane l).lineHeld q).takeOutcome l r .integrity good) l r := by
  have hlane : ∀ (x : Target) (u : IncidentUnit),
      ((((s.reframed l (s.lane l).lineHeld q).setTarget r.target x).withInc u).lane l) = s.lane l := fun x u => by
    rw [lane_withInc, lane_setTarget, lane_reframed, if_pos rfl]
  have hincident : integrityIncident (s.reframed l (s.lane l).lineHeld q) l r =
      { kind := .integrity, epoch := s.now, lane := l, target := r.target, attempt := some r.attempt, status := r.status
        data := some r.data } := by
    rcases hkind with h | h <;> simp [integrityIncident, h]
  have hends : (s.reframed l (s.lane l).lineHeld q).holdOutcome l r r.isEntry .integrity =
      ((s.reframed l (s.lane l).lineHeld q).setTarget r.target ((s.target r.target).afterHoldFailure r.isEntry)).withInc
        ((s.inc.pass (integrityIncident (s.reframed l (s.lane l).lineHeld q) l r)).afterHoldFailure (s.target r.target) r.isEntry
          (s.holdFailedIncident l r r.isEntry .integrity)) :=
    holdFailed_eq ((s.reframed l (s.lane l).lineHeld q).passIncident
      (integrityIncident (s.reframed l (s.lane l).lineHeld q) l r)) l r r.isEntry .integrity
  rw [hincident] at hends
  rw [takeOutcome_hold hkind, hends]
  have hended := fun u => lane_hold_of_integrity (good := good) hkind
    (hlane ((s.target r.target).afterHoldFailure r.isEntry) u)
  refine ⟨⟨_, ?_, holdFails_of_after (sameBesideHold_leftBusy hkind _ _) ?_ rfl⟩, ?_, ?_⟩
  · rw [inc_leftBusy, if_pos rfl, inc_withInc]
  · rw [target_leftBusy, target_withInc, target_setTarget, if_pos rfl]
  · obtain ⟨_, _, _, _, hlatches, hrecovers⟩ := suspectedLane_fields (s.lane l) s.now
    rw [State.laneSuspended, hended]
    exact ⟨rfl, rfl, rfl, rfl, sameConfig_freed (s.lane l) 0, hlatches, hrecovers⟩
  · rw [hended]

end

-- The statement

/-- Settles O49: every row that ends a hold transaction in a failure. -/
theorem holdTransactionFails : Obligations.HoldTransactionFails := by
  intro s l r hrecord hkind
  have hdata : s.expectedData r ≤ r.data.length := by
    rw [expectedData_of_hold hkind]
    exact Nat.zero_le _
  refine ⟨fun hends hreached => ?_, fun hconfigured hmode hphase hreached => ?_, fun hclock hphase hlate => ?_,
    fun hclock hmode hphase => ?_, fun hmode hphase => ?_, fun hclock hmode hphase => ?_,
    fun hclock hphase hstatus hnone => ?_, fun hclock hphase hstatus hnone => ?_, fun v hclock hphase hbad => ?_,
    fun v hclock hphase hpending hdone hbusy herror habsent => ?_⟩
  · exact ⟨_, leaves_reframed (leaves_responseDeadline hrecord hreached hends),
      holdFailsQuietly_takeOutcome (good := false) hkind rfl (by simp)⟩
  · exact ⟨_, leaves_clockLineHold hrecord hconfigured hmode hphase hreached,
      holdFails_takeOutcome (good := false) hkind rfl (by simp)⟩
  · exact ⟨_, leaves_statusRead hrecord hclock (mayReadStatus_of (.inl hphase)) (readStatus_of_late hphase hlate),
      holdFailsQuietly_takeOutcome (good := false) (r := { r with status := some 0x00, phase := .wait, tickSinceRead := false })
        hkind rfl (by simp)⟩
  · exact ⟨_, leaves_reframed (leaves_addressNotAcknowledged hrecord hclock hmode (mayReadStatus_of hphase)),
      holdFailsQuietly_takeOutcome (good := false) hkind rfl (by simp)⟩
  · have hclock : (s.lane l).clockHeld = false := by simp [Lane.clockHeld, hmode]
    exact ⟨_, leaves_statusRead hrecord hclock (mayReadStatus_of (.inl hphase)) (readStatus_of_absent hmode hphase),
      holdFailsQuietly_takeOutcome (good := false) hkind rfl (by simp)⟩
  · exact ⟨_, leaves_reframed (leaves_requestByteRefused hrecord hclock hmode hphase),
      holdFailsQuietly_takeOutcome (good := false) hkind rfl (by simp)⟩
  · have hleaves := leaves_checkByte 0xDA hrecord hclock hphase hdata
    rw [classify_of_busy (by rw [hstatus, hnone]; decide) hstatus] at hleaves
    exact ⟨_, leaves_reframed hleaves, holdFailsQuietly_takeOutcome (good := true) hkind rfl (by simp)⟩
  · have hleaves := leaves_checkByte 0xDD hrecord hclock hphase hdata
    rw [classify_of_rejected (by rw [hstatus, hnone]; decide) (by rw [hstatus]; decide) (by rw [hstatus]; decide)] at hleaves
    exact ⟨_, leaves_reframed hleaves, holdFailsQuietly_takeOutcome (good := true) hkind rfl (by simp)⟩
  · have hleaves := leaves_checkByte v hrecord hclock hphase hdata
    rw [classify_of_bad hbad] at hleaves
    exact ⟨_, leaves_reframed hleaves, holdSuspends_takeOutcome hkind⟩
  · exact ⟨_, leaves_statusRead hrecord hclock (mayReadStatus_of hphase)
      (readStatus_of_undefined hpending hdone hbusy herror habsent),
      holdSuspends_takeOutcome (r := { r with status := some v }) hkind⟩

end Sys2Proof.Machine

/-! The credit of an entry (O47): the target is held, and the boundaries of its RUNNING duties are suspended (R26, R99). -/

namespace Sys2Proof.Machine

-- The duties of a target that is held or stranded

/-- The duty while its target is held: where it is RUNNING it has no next boundary (R26). -/
def Duty.suspendedBy (x : Duty) (t : TargetIx) : Duty :=
  if x.state = .running ∧ x.defn.target = t then { x with nextBoundary := none } else x

theorem duty_foldl_setDuty (f : Duty → Duty) {ds : List DutyIx} (hds : ds.Nodup) (s : State) (e : DutyIx) :
    (ds.foldl (fun z d => z.setDuty d (f (z.duty d))) s).duty e = if e ∈ ds then f (s.duty e) else s.duty e := by
  induction ds generalizing s with
  | nil => simp
  | cons d ds ih =>
    obtain ⟨hd, hds⟩ := List.nodup_cons.mp hds
    rw [List.foldl_cons, ih hds, duty_setDuty]
    by_cases he : e = d
    · subst he
      simp [hd]
    · simp [he]

theorem allDuties_nodup : allDuties.Nodup := List.nodup_finRange 64

theorem suspendDuties_eq (s : State) (t : TargetIx) :
    s.suspendDuties t = allDuties.foldl (fun z d => z.setDuty d ((z.duty d).suspendedBy t)) s := by
  unfold State.suspendDuties
  congr 1
  funext z d
  unfold Duty.suspendedBy
  by_cases h : (z.duty d).state = .running ∧ (z.duty d).defn.target = t
  · simp [h]
  · rw [if_neg h, setDuty_self]
    exact if_neg (by simpa using h)

theorem duty_suspendDuties (s : State) (t : TargetIx) (e : DutyIx) : (s.suspendDuties t).duty e = (s.duty e).suspendedBy t := by
  rw [suspendDuties_eq, duty_foldl_setDuty (fun x => x.suspendedBy t) allDuties_nodup, if_pos (mem_allDuties e)]

-- The credit of a hold transaction

section

variable {s z : State} {l : LaneIx} {r : InFlight}

/-- DONE with no data and a good check byte credits a hold transaction (R74). -/
theorem leaves_credit (hrecord : s.record l = some r) (hkind : r.kind = .holdEntry ∨ r.kind = .holdExit)
    (hclock : (s.lane l).clockHeld = false) (hphase : r.phase = .response) (hstatus : r.status = some 0x61) (hnone : r.data = []) :
    leaves (.checkByte l 0xD3) s ((s.holdCredited r r.isEntry).leftBusy l r 0 .credited true) [l] := by
  have hdata : s.expectedData r ≤ r.data.length := by
    rw [expectedData_of_hold hkind]
    exact Nat.zero_le _
  have hleaves := leaves_checkByte 0xD3 hrecord hclock hphase hdata
  rw [classify_of_done (by rw [hstatus, hnone]; decide) hstatus, classifyDone_hold hkind, takeOutcome_hold hkind] at hleaves
  exact hleaves

/-- The lane after the credit: the frame has ended with the lines free, and the count is 0 (R62, R64, R125). -/
theorem lane_credit (hkind : r.kind = .holdEntry ∨ r.kind = .holdExit) (hclock : (z.lane l).clockHeld = false) :
    (z.leftBusy l r 0 .credited true).lane l =
      { z.lane l with activity := .idle, integrityCount := 0, pins := (z.lane l).idlePins, stopWaiting := false } := by
  rw [lane_hold_of_quiet hkind rfl (by simp), Lane.freed, endFrame_of_free hclock]
  rfl

end

-- The entered target

section

variable {x : Target} {now : Epoch}

theorem enteredTarget_of_unlimited (hrelease : x.releasePending = false) (hmaximum : x.defn.maximumHold = 0) :
    enteredTarget x now =
      { x with
        holdState := .held, holdTransaction := .none, holdAttempts := 0, heldSince := some now, deadlineKind := .none
        deadline := none } := by
  simp [enteredTarget, hrelease, hmaximum]

theorem enteredTarget_of_limited (hrelease : x.releasePending = false) (hmaximum : x.defn.maximumHold ≠ 0) :
    enteredTarget x now =
      { x with
        holdState := .held, holdTransaction := .none, holdAttempts := 0, heldSince := some now, deadlineKind := .maximum
        deadline := some (satAdd now (64 * x.defn.maximumHold)) } := by
  simp only [enteredTarget, hrelease, Bool.false_eq_true, if_false, ne_eq, hmaximum, not_false_eq_true, if_true]
  rfl

theorem enteredTarget_of_release (hrelease : x.releasePending = true) :
    enteredTarget x now =
      { x with
        holdState := .leaving, holdTransaction := .exitPending, holdAttempts := 0, heldSince := some now
        releasePending := false, deadlineKind := .minimum, deadline := some (satAdd now x.defn.minimumHold) } := by
  simp only [enteredTarget, hrelease, if_true]
  rfl

end

-- The views of a credited entry

section

variable (s : State) (t : TargetIx)

theorem target_entryCredited (j : TargetIx) :
    (s.entryCredited t).target j = if j = t then enteredTarget (s.target t) s.now else s.target j := by
  rw [State.entryCredited, target_setHoldCause, target_suspendDuties, target_setTarget]

theorem duty_entryCredited (d : DutyIx) : (s.entryCredited t).duty d = (s.duty d).suspendedBy t := by
  rw [State.entryCredited, duty_setHoldCause, duty_suspendDuties, duty_setTarget]

theorem inc_entryCredited : (s.entryCredited t).inc = s.inc.setHold := by
  rw [State.entryCredited, inc_setHoldCause, inc_suspendDuties, inc_setTarget]

end

/-- Settles O47: the target by the release that waits and its Maximum hold, its duties by the fold over all duties. -/
theorem entryCreditHoldsTheTarget : Obligations.EntryCreditHoldsTheTarget := by
  intro s l r g hrecord hentry htarget hclock hphase hstatus hnone
  have hkind : r.kind = .holdEntry ∨ r.kind = .holdExit := .inl hentry
  have hleaves := leaves_credit hrecord hkind hclock hphase hstatus hnone
  have hcredited : s.holdCredited r r.isEntry = s.entryCredited g := by
    simp [State.holdCredited, InFlight.isEntry, hentry, htarget]
  rw [hcredited] at hleaves
  have hlane : (s.entryCredited g).lane l = s.lane l := lane_entryCredited s g l
  have hended := lane_credit (z := s.entryCredited g) hkind (by rw [hlane]; exact hclock)
  rw [hlane] at hended
  have hentered : ((s.entryCredited g).leftBusy l r 0 .credited true).target g = enteredTarget (s.target g) s.now := by
    rw [target_leftBusy, target_entryCredited, if_pos rfl]
  refine ⟨_, hleaves, fun hrelease hmaximum => ?_, fun hrelease hmaximum => ?_, fun hrelease => ?_, fun h hh => ?_, fun d => ?_,
    fun j => ?_, fun k => ?_, ?_, fun j hj => ⟨?_, ?_⟩, hended, ?_, ?_, ?_, ?_, ?_⟩
  · rw [hentered, enteredTarget_of_unlimited hrelease hmaximum]
  · rw [hentered, enteredTarget_of_limited hrelease hmaximum]
  · rw [hentered, enteredTarget_of_release hrelease]
  · rw [target_leftBusy, target_entryCredited, if_neg hh]
  · rw [duty_leftBusy, duty_entryCredited]
    rfl
  · rw [list_leftBusy, list_entryCredited]
  · rw [lock_leftBusy_hold _ _ _ _ _ _ hkind, lock_entryCredited]
  · rw [record_leftBusy, if_pos rfl]
  · rw [record_leftBusy, if_neg hj, record_entryCredited]
  · rw [lane_leftBusy_ne _ _ _ _ _ _ hj, lane_entryCredited]
  · rw [inc_leftBusy, if_neg (by simp), inc_entryCredited]
  · rw [port_leftBusy, port_entryCredited]
  · rw [time_leftBusy, time_entryCredited]
  · rw [busRead_leftBusy, busRead_entryCredited]
  · rw [pending_leftBusy, pending_entryCredited]

end Sys2Proof.Machine

/-! The credit of an exit (O48): the duties of the target are re-based in order of Index (R10, R36, R45, R105). -/

namespace Sys2Proof.Machine

-- One duty

section

variable {s : State} {d : DutyIx}

/-- The report of a re-based duty (R32, R124). -/
def State.pressedBy (s : State) (d : DutyIx) : Prop :=
  (s.rebased d).state = .running ∧ (s.duty d).owed = ((s.duty d).defn.deferLimit : Int) + 1

theorem dutyChanged_self {pressed : Prop} (hnot : ¬pressed) (hstate : (s.duty d).state ≠ .running) :
    s.dutyChanged s d (s.duty d) pressed := by
  have hticket : (s.duty d).getsTicket = false := by simp [Duty.getsTicket, hstate]
  refine ⟨⟨fun _ _ => rfl, fun _ => rfl, fun _ _ => ⟨rfl, rfl, rfl⟩, rfl, rfl, rfl⟩, ⟨(offered_of_not hticket).symm, ?_⟩,
    ⟨fun h => absurd h.1 hnot, fun _ => ⟨rfl, rfl⟩⟩, rfl, fun _ => rfl, rfl⟩
  rw [hticket, if_neg Bool.false_ne_true]

/-- A duty of a target that accrues is re-based, offered a ticket, and reports where it is pressed. -/
theorem dutyChanged_rebaseDuty (haccruing : (s.targetOf d).holdState.accruing = true) :
    s.dutyChanged (s.rebaseDuty d) d (s.rebased d) (s.pressedBy d) := by
  unfold State.pressedBy
  by_cases hrun : (s.duty d).state = .running
  · have hrebased : s.rebased d = { s.duty d with nextBoundary := boundaryAfter s.now (s.duty d).defn.interval, catchUp := true } :=
      if_pos hrun
    rw [State.rebaseDuty, if_pos hrun, hrebased]
    exact dutyChanged_reportIfPressed (by rfl) (by simp [hrun, haccruing])
  · by_cases hstarts : (s.duty d).state = .waiting ∧ absentOrReached s.now (s.duty d).defn.startTime = true
    · have hrebased : s.rebased d =
          { s.duty d with state := .running, nextBoundary := boundaryAfter s.now (s.duty d).defn.interval } :=
        (if_neg hrun).trans (if_pos hstarts)
      rw [State.rebaseDuty, if_neg hrun, if_pos (by simpa using hstarts), startRunning_eq, hrebased]
      exact dutyChanged_reportIfPressed (by rfl) (by simp [haccruing])
    · have hrebased : s.rebased d = s.duty d := (if_neg hrun).trans (if_neg hstarts)
      rw [State.rebaseDuty, if_neg hrun, if_neg (by simpa using hstarts), hrebased]
      exact dutyChanged_self (fun h => hrun h.1) hrun

end

-- The report of two duties of one lane

/-- Two reports of a lane, one behind the other, leave what one report leaves: a blackout ends once (R124). -/
theorem afterReport_trans {s x y : State} {l : LaneIx} {p q : Prop} (h : s.afterReport x l p) (h' : x.afterReport y l q) :
    s.afterReport y l (p ∨ q) := by
  obtain ⟨hends, hquiet⟩ := h
  obtain ⟨hends', hquiet'⟩ := h'
  by_cases hp : p ∧ (s.lane l).gate = .blackout ∧ (s.lane l).yielding = true
  · obtain ⟨hlane, hinc⟩ := hends hp
    obtain ⟨hlane', hinc'⟩ := hquiet' (by simp [hlane])
    exact ⟨fun _ => ⟨hlane'.trans hlane, hinc'.trans hinc⟩, fun hnot => absurd ⟨.inl hp.1, hp.2⟩ hnot⟩
  · obtain ⟨hlane, hinc⟩ := hquiet hp
    rw [hlane, hinc] at hends' hquiet'
    refine ⟨fun ⟨hpq, hblackout⟩ => hends' ⟨hpq.resolve_left fun h => hp ⟨h, hblackout⟩, hblackout⟩,
      fun hnot => hquiet' fun ⟨hq, hblackout⟩ => hnot ⟨.inr hq, hblackout⟩⟩

-- The duties in order of Index

/-- The duties `ds` of the target `g`, whose lane is `l`, have been re-based from `s`. -/
structure State.RebasedOver (s x : State) (g : TargetIx) (l : LaneIx) (ds : List DutyIx) : Prop where
  duty : ∀ d, x.duty d = if d ∈ ds ∧ (s.duty d).defn.target = g then (s.rebased d).offered else s.duty d
  list : x.list l = s.list l ++ ds.filter fun d => decide ((s.duty d).defn.target = g) && (s.rebased d).getsTicket
  others : ∀ j, j ≠ l → x.list j = s.list j ∧ x.lane j = s.lane j
  report : s.afterReport x l (∃ d ∈ ds, (s.duty d).defn.target = g ∧ s.pressedBy d)
  target : ∀ h, x.target h = s.target h
  time : x.time = s.time

section

variable {s x : State} {g : TargetIx} {l : LaneIx} {ds : List DutyIx} {d : DutyIx}

theorem State.RebasedOver.nil : s.RebasedOver s g l [] :=
  ⟨fun _ => by simp, by simp, fun _ _ => ⟨rfl, rfl⟩, ⟨fun h => by simp at h, fun _ => ⟨rfl, rfl⟩⟩, fun _ => rfl, rfl⟩

/-- A duty of another target is passed over. -/
theorem State.RebasedOver.skip (h : s.RebasedOver x g l ds) (htarget : (s.duty d).defn.target ≠ g) :
    s.RebasedOver x g l (ds ++ [d]) where
  duty e := by
    rw [h.duty e]
    by_cases he : e = d
    · subst he
      simp [htarget]
    · simp [he]
  list := by simp [h.list, htarget]
  others := h.others
  report := by
    have hsame : (∃ e ∈ ds ++ [d], (s.duty e).defn.target = g ∧ s.pressedBy e) ↔
        ∃ e ∈ ds, (s.duty e).defn.target = g ∧ s.pressedBy e := by
      refine exists_congr fun e => ⟨fun ⟨hmem, he⟩ => ⟨?_, he⟩, fun ⟨hmem, he⟩ => ⟨by simp [hmem], he⟩⟩
      rcases List.mem_append.mp hmem with hmem | hmem
      · exact hmem
      · rw [List.mem_singleton.mp hmem] at he
        exact absurd he.1 htarget
    rw [hsame]
    exact h.report
  target := h.target
  time := h.time

/-- The next duty of the target is re-based. -/
theorem State.RebasedOver.snoc (h : s.RebasedOver x g l ds) (hd : d ∉ ds) (htarget : (s.duty d).defn.target = g)
    (hlane : (s.target g).defn.lane = l) (haccruing : (s.target g).holdState.accruing = true) :
    s.RebasedOver (x.rebaseDuty d) g l (ds ++ [d]) := by
  have hduty : x.duty d = s.duty d := by rw [h.duty d, if_neg (by simp [hd])]
  have hnow : x.now = s.now := by rw [State.now, h.time, State.now]
  have htargetOf : x.targetOf d = s.target g := by rw [State.targetOf, hduty, htarget, h.target]
  have hlaneOf : x.laneOf d = l := by rw [State.laneOf, htargetOf, hlane]
  have hrebased : x.rebased d = s.rebased d := by rw [State.rebased, State.rebased, hduty, hnow]
  have hpressed : x.pressedBy d ↔ s.pressedBy d := by rw [State.pressedBy, State.pressedBy, hduty, hrebased]
  have hchanged := dutyChanged_rebaseDuty (s := x) (d := d) (by rw [htargetOf, haccruing])
  rw [hlaneOf.symm] at h ⊢
  obtain ⟨⟨hothers, htargets, hlanes, htime, _⟩, ⟨hoffered, hlist⟩, hreport, _⟩ := hchanged
  rw [hrebased] at hoffered hlist
  rw [hpressed] at hreport
  refine ⟨fun e => ?_, ?_, fun j hj => ?_, ?_, fun k => ?_, ?_⟩
  · by_cases he : e = d
    · subst he
      rw [hoffered, if_pos ⟨by simp, htarget⟩]
    · rw [hothers e he, h.duty e]
      simp [he]
  · rw [hlist, h.list]
    by_cases hticket : (s.rebased d).getsTicket = true <;> simp [hticket, htarget]
  · obtain ⟨hlane', hlist', _⟩ := hlanes j hj
    obtain ⟨hlist'', hlane''⟩ := h.others j hj
    exact ⟨hlist'.trans hlist'', hlane'.trans hlane''⟩
  · have hboth := afterReport_trans h.report hreport
    have hsame : ((∃ e ∈ ds, (s.duty e).defn.target = g ∧ s.pressedBy e) ∨ s.pressedBy d) ↔
        ∃ e ∈ ds ++ [d], (s.duty e).defn.target = g ∧ s.pressedBy e := by
      simp only [List.mem_append, List.mem_singleton, or_and_right, exists_or, exists_eq_left, htarget, true_and]
    rwa [hsame] at hboth
  · rw [htargets, h.target]
  · rw [htime, h.time]

theorem rebasedOver_foldl (hlane : (s.target g).defn.lane = l) (haccruing : (s.target g).holdState.accruing = true)
    (hds : ds.Nodup) :
    s.RebasedOver (ds.foldl (fun z d => if (z.duty d).defn.target = g then z.rebaseDuty d else z) s) g l ds := by
  induction ds using List.reverseRecOn with
  | nil => exact .nil
  | append_singleton ds d ih =>
    have hnew : d ∉ ds := fun h => (List.nodup_append.mp hds).2.2 d h d (by simp) rfl
    have hbefore := ih (List.nodup_append.mp hds).1
    have hduty : (ds.foldl (fun z d => if (z.duty d).defn.target = g then z.rebaseDuty d else z) s).duty d = s.duty d := by
      rw [hbefore.duty d, if_neg fun h => hnew h.1]
    rw [List.foldl_append, List.foldl_cons, List.foldl_nil, hduty]
    by_cases htarget : (s.duty d).defn.target = g
    · rw [if_pos htarget]
      exact hbefore.snoc hnew htarget hlane haccruing
    · rw [if_neg htarget]
      exact hbefore.skip htarget

theorem rebasedOver_rebaseDuties (hlane : (s.target g).defn.lane = l) (haccruing : (s.target g).holdState.accruing = true) :
    s.RebasedOver (s.rebaseDuties g) g l allDuties :=
  rebasedOver_foldl hlane haccruing allDuties_nodup

end

-- The target after its exit

section

variable (x : Target) (now : Epoch)

theorem exitedTarget_of_zero (h : x.defn.settleTime = 0) :
    exitedTarget x now =
      { x with
        holdState := .active, holdTransaction := .none, holdAttempts := 0, heldSince := none, deadlineKind := .none
        deadline := none } := by
  simp [exitedTarget, h]

theorem exitedTarget_of_pos (h : 0 < x.defn.settleTime) :
    exitedTarget x now =
      { x with
        holdState := .settling, holdTransaction := .none, holdAttempts := 0, heldSince := none, deadlineKind := .settle
        deadline := some (satAdd now x.defn.settleTime) } := by
  simp [exitedTarget, h]

theorem exitedTarget_accruing : (exitedTarget x now).holdState.accruing = true := by
  rcases Nat.eq_zero_or_pos x.defn.settleTime with h | h
  · rw [exitedTarget_of_zero x now h]
    rfl
  · rw [exitedTarget_of_pos x now h]
    rfl

theorem defn_exitedTarget : (exitedTarget x now).defn = x.defn := by
  rcases Nat.eq_zero_or_pos x.defn.settleTime with h | h
  · rw [exitedTarget_of_zero x now h]
  · rw [exitedTarget_of_pos x now h]

end

theorem target_exitCredited (s : State) (t j : TargetIx) :
    (s.exitCredited t).target j = if j = t then exitedTarget (s.target t) s.now else s.target j := by
  rw [State.exitCredited, target_setHoldCause, target_rebaseDuties, target_setTarget]

theorem rebased_setTarget (s : State) (t : TargetIx) (x : Target) (d : DutyIx) : (s.setTarget t x).rebased d = s.rebased d := by
  rw [State.rebased, State.rebased, duty_setTarget, now_setTarget]

/-- A credited exit re-bases the duties of its target, and then records the HOLD cause (R105, R110). -/
theorem exitCredited_rebases {s : State} {g : TargetIx} {l : LaneIx} (hlane : (s.target g).defn.lane = l) :
    ∃ z, s.exitCredited g = z.setHoldCause ∧
      (∀ d, z.duty d = if (s.duty d).defn.target = g then (s.rebased d).offered else s.duty d) ∧
      z.list l = s.list l ++
        allDuties.filter (fun d => decide ((s.duty d).defn.target = g) && (s.rebased d).getsTicket) ∧
      (∀ j, j ≠ l → z.list j = s.list j ∧ z.lane j = s.lane j) ∧
      s.afterReport z l (∃ d, (s.duty d).defn.target = g ∧ s.pressedBy d) := by
  have hself : (s.setTarget g (exitedTarget (s.target g) s.now)).target g = exitedTarget (s.target g) s.now := by
    rw [target_setTarget, if_pos rfl]
  obtain ⟨hduty, hlist, hothers, hreport, _, _⟩ := rebasedOver_rebaseDuties
    (s := s.setTarget g (exitedTarget (s.target g) s.now)) (g := g) (l := l) (by rw [hself, defn_exitedTarget, hlane])
    (by rw [hself, exitedTarget_accruing])
  simp only [duty_setTarget, rebased_setTarget, list_setTarget, lane_setTarget, State.pressedBy, mem_allDuties, true_and]
    at hduty hlist hothers hreport
  exact ⟨_, rfl, hduty, hlist, hothers, hreport⟩

/-- Settles O48: the duties by the fold over all duties, in order of Index, and the lane by the report. -/
theorem exitCreditRebasesTheDuties : Obligations.ExitCreditRebasesTheDuties := by
  intro s l r g pressed hrecord hexit htarget hclock hphase hstatus hnone hlane hpressed
  have hkind : r.kind = .holdEntry ∨ r.kind = .holdExit := .inr hexit
  have hleaves := leaves_credit hrecord hkind hclock hphase hstatus hnone
  have hcredited : s.holdCredited r r.isEntry = s.exitCredited g := by
    simp [State.holdCredited, InFlight.isEntry, hexit, htarget]
  rw [hcredited] at hleaves
  have hexited : ((s.exitCredited g).leftBusy l r 0 .credited true).target g = exitedTarget (s.target g) s.now := by
    rw [target_leftBusy, target_exitCredited, if_pos rfl]
  obtain ⟨z, hz, hduty, hlist, hothers, hends, hquiet⟩ := exitCredited_rebases (s := s) hlane
  rw [show (∃ d, (s.duty d).defn.target = g ∧ s.pressedBy d) ↔ pressed from hpressed.symm] at hends hquiet
  refine ⟨_, hleaves, fun hsettle => ?_, fun hsettle => ?_, fun h hh => ?_, fun d => ?_, ?_, fun j hj => ⟨?_, ?_, ?_⟩,
    fun k => ?_, ?_, fun h => ⟨?_, ?_⟩, fun h => ⟨?_, ?_⟩, ?_, ?_, ?_, ?_⟩
  · rw [hexited, exitedTarget_of_zero _ _ hsettle]
  · rw [hexited, exitedTarget_of_pos _ _ hsettle]
  · rw [target_leftBusy, target_exitCredited, if_neg hh]
  · rw [duty_leftBusy, hz, duty_setHoldCause, hduty]
  · rw [list_leftBusy, hz, list_setHoldCause, hlist]
  · rw [list_leftBusy, hz, list_setHoldCause, (hothers j hj).1]
  · rw [record_leftBusy, if_neg hj, record_exitCredited]
  · rw [lane_leftBusy_ne _ _ _ _ _ _ hj, hz, lane_setHoldCause, (hothers j hj).2]
  · rw [lock_leftBusy_hold _ _ _ _ _ _ hkind, lock_exitCredited]
  · rw [record_leftBusy, if_pos rfl]
  · have hlane' : (s.exitCredited g).lane l = { s.lane l with gate := .opened, blackoutEnd := none, yielding := false } := by
      rw [hz, lane_setHoldCause, (hends h).1]
    rw [lane_credit hkind (by rw [hlane']; exact hclock), hlane']
    rfl
  · rw [inc_leftBusy, if_neg (by simp), hz, inc_setHoldCause, (hends h).2]
  · have hlane' : (s.exitCredited g).lane l = s.lane l := by rw [hz, lane_setHoldCause, (hquiet h).1]
    rw [lane_credit hkind (by rw [hlane']; exact hclock), hlane']
  · rw [inc_leftBusy, if_neg (by simp), hz, inc_setHoldCause, (hquiet h).2]
  · rw [port_leftBusy, port_exitCredited]
  · rw [time_leftBusy, time_exitCredited]
  · rw [busRead_leftBusy, busRead_exitCredited]
  · rw [pending_leftBusy, pending_exitCredited]

end Sys2Proof.Machine

/-! CLOSE LANE (O52): the transaction in flight is abandoned, the lock of a quiet time is released, and the lane is CLOSED (R62, R81,
R86, R109, R121). -/

namespace Sys2Proof.Machine

-- The transaction in flight

/-- The transaction of the lane, if one is in flight, has ended with ABANDONED (R81). -/
def State.abandonedOn (s : State) (l : LaneIx) : State :=
  match s.record l with
  | none => s
  | some r => s.takeOutcome l r .abandoned false

theorem closeLane_eq (s : State) (l : LaneIx) :
    s.closeLane l = ((s.abandonedOn l).releaseQuietLock l).setLane l (closedLane ((s.abandonedOn l).lane l)) := by
  rw [← lane_releaseQuietLock]
  rfl

section

variable {s z : State} {l : LaneIx} {r : InFlight} {d : DutyIx}

theorem abandonedOn_of_none (h : s.record l = none) : s.abandonedOn l = s := by
  rw [State.abandonedOn, h]

theorem abandonedOn_of_some (h : s.record l = some r) : s.abandonedOn l = s.takeOutcome l r .abandoned false := by
  rw [State.abandonedOn, h]

theorem closedLane_endFrame (x : Lane) : closedLane x.endFrame = closedLane x := by
  unfold Lane.endFrame
  split <;> rfl

theorem reported_abandoned (x : Lane) (now : Epoch) : x.reported now .abandoned false = x :=
  Lane.reported_of_quiet now false (by simp)

/-- The lane of a duty's transaction that is abandoned: its frame has ended, and it is IDLE at once (R64). -/
theorem lane_abandoned_duty (hkind : r.kind = .duty d) (n : Nat) :
    (z.leftBusy l r n .abandoned false).lane l = { (z.lane l).endFrame with activity := .idle } := by
  rw [lane_leftBusy_duty _ _ _ _ _ _ hkind, if_neg fun h => h.1 rfl, reported_abandoned]

theorem closedLane_leftBusy (n : Nat) : closedLane ((z.leftBusy l r n .abandoned false).lane l) = closedLane (z.lane l) := by
  refine Eq.trans ?_ (closedLane_endFrame (z.lane l))
  cases hkind : r.kind with
  | duty d =>
    rw [lane_abandoned_duty hkind]
    rfl
  | holdEntry =>
    rw [lane_leftBusy_hold _ _ _ _ _ _ (.inl hkind), reported_abandoned]
    rfl
  | holdExit =>
    rw [lane_leftBusy_hold _ _ _ _ _ _ (.inr hkind), reported_abandoned]
    rfl

theorem closedLane_vacateDuty (s : State) (d : DutyIx) (l : LaneIx) :
    closedLane ((s.vacateDuty d).lane l) = closedLane (s.lane l) := by
  by_cases hl : l = s.laneOf d
  · rw [hl, lane_vacateDuty_quietLock]
    rfl
  · rw [lane_vacateDuty_ne _ _ hl]

theorem closedLane_completeRetire (s : State) (r : InFlight) (l : LaneIx) :
    closedLane ((s.completeRetire r).lane l) = closedLane (s.lane l) := by
  cases hkind : r.kind with
  | duty d =>
    rw [completeRetire_duty hkind]
    split
    · rw [lane_recordResult, closedLane_vacateDuty]
    · rfl
  | holdEntry | holdExit => simp [State.completeRetire, hkind]

theorem lane_ownerTakes_abandoned (s : State) (l : LaneIx) (r : InFlight) (j : LaneIx) :
    (s.ownerTakes l r .abandoned).lane j = s.lane j := by
  cases hkind : r.kind with
  | duty d =>
    rw [ownerTakes_duty hkind]
    exact lane_abandonDuty s d j
  | holdEntry =>
    rw [ownerTakes_hold (.inl hkind)]
    exact lane_holdAbandoned s r.target j
  | holdExit =>
    rw [ownerTakes_hold (.inr hkind)]
    exact lane_holdAbandoned s r.target j

/-- Of the lane the abandoned transaction changes nothing that the close keeps (R121). -/
theorem closedLane_abandonedOn (s : State) (l : LaneIx) : closedLane ((s.abandonedOn l).lane l) = closedLane (s.lane l) := by
  cases hrecord : s.record l with
  | none => rw [abandonedOn_of_none hrecord]
  | some r =>
    rw [abandonedOn_of_some hrecord, takeOutcome_eq, closedLane_completeRetire, closedLane_leftBusy, lane_ownerTakes_abandoned]

theorem record_abandonedOn (s : State) (l j : LaneIx) : (s.abandonedOn l).record j = if j = l then none else s.record j := by
  cases hrecord : s.record l with
  | none =>
    rw [abandonedOn_of_none hrecord]
    by_cases hj : j = l
    · rw [if_pos hj, hj, hrecord]
    · rw [if_neg hj]
  | some r => rw [abandonedOn_of_some hrecord, record_takeOutcome]

-- The views of CLOSE LANE

theorem lane_closeLane_self (s : State) (l : LaneIx) : (s.closeLane l).lane l = closedLane (s.lane l) := by
  rw [closeLane_eq, lane_setLane, if_pos rfl, closedLane_abandonedOn]

theorem lane_closeLane_ne {j : LaneIx} (hj : j ≠ l) : (s.closeLane l).lane j = (s.abandonedOn l).lane j := by
  rw [closeLane_eq, lane_setLane, if_neg hj, lane_releaseQuietLock]

theorem record_closeLane (s : State) (l j : LaneIx) : (s.closeLane l).record j = if j = l then none else s.record j := by
  rw [closeLane_eq, record_setLane, record_releaseQuietLock, record_abandonedOn]

theorem duty_closeLane (s : State) (l : LaneIx) (e : DutyIx) : (s.closeLane l).duty e = (s.abandonedOn l).duty e := by
  rw [closeLane_eq, duty_setLane, duty_releaseQuietLock]

theorem target_closeLane (s : State) (l : LaneIx) (g : TargetIx) : (s.closeLane l).target g = (s.abandonedOn l).target g := by
  rw [closeLane_eq, target_setLane, target_releaseQuietLock]

theorem list_closeLane (s : State) (l j : LaneIx) : (s.closeLane l).list j = (s.abandonedOn l).list j := by
  rw [closeLane_eq, list_setLane, list_releaseQuietLock]

theorem inc_closeLane (s : State) (l : LaneIx) : (s.closeLane l).inc = (s.abandonedOn l).inc := by
  rw [closeLane_eq, inc_setLane, inc_releaseQuietLock]

theorem port_closeLane (s : State) (l : LaneIx) : (s.closeLane l).port = (s.abandonedOn l).port := by
  rw [closeLane_eq, port_setLane, port_releaseQuietLock]

/-- The lock that the lane carries through its quiet time is released, if its duty still holds it (R67). -/
theorem lock_closeLane (s : State) (l : LaneIx) (k : LockIx) :
    (s.closeLane l).lock k =
      if ∃ e, ((s.abandonedOn l).lane l).quietLock = some (k, e) ∧ (s.abandonedOn l).lock k = some e then none
      else (s.abandonedOn l).lock k := by
  rw [closeLane_eq, lock_setLane, lock_releaseQuietLock]

-- The transaction of a duty

theorem abandonedOn_of_serves (h : s.serves l r d) :
    s.abandonedOn l = (s.abandonDuty d).leftBusy l r (s.duty d).defn.quietTime .abandoned false := by
  obtain ⟨hrecord, hkind, hl, hretire⟩ := h
  have htook : (s.reframed l (s.lane l).lineHeld (s.record l)).OwnerTook (s.abandonDuty d) d l := by
    rw [reframed_self]
    exact ownerTook_dutyOutcome r hl .abandoned
  have htaken := takeOutcome_of_owner (good := false) (o := .abandoned) hkind hretire
    (by rw [reframed_self]; exact ownerTakes_duty hkind) htook
  rw [reframed_self] at htaken
  rw [abandonedOn_of_some hrecord, htaken]

/-- CLOSE LANE with the transaction of a duty in flight (R62, R81). -/
theorem closeLane_of_serves (h : s.serves l r d) :
    s.ticketOffered (s.closeLane l) d l { s.duty d with lastOutcome := .abandoned, inFlight := false } ∧
      (∀ e, e ≠ d → (s.closeLane l).duty e = s.duty e) ∧ (∀ g, (s.closeLane l).target g = s.target g) ∧
      (∀ j, j ≠ l → (s.closeLane l).list j = s.list j ∧ (s.closeLane l).lane j = s.lane j) ∧ (s.closeLane l).inc = s.inc ∧
      (s.closeLane l).port = s.port ∧
      ∀ k, (s.closeLane l).lock k =
        if (s.lockOf d = some k ∧ s.lock k = some d) ∨ ∃ e, (s.lane l).quietLock = some (k, e) ∧ s.lock k = some e then none
        else s.lock k := by
  have habandoned := abandonedOn_of_serves h
  obtain ⟨_, hkind, hl, _⟩ := h
  obtain ⟨⟨hduties, htargets, hothers, _⟩, ⟨hduty, hlist⟩, _⟩ := abandonDuty_changed (s := s) (d := d)
  rw [hl] at hothers hlist
  refine ⟨⟨?_, ?_⟩, fun e he => ?_, fun g => ?_, fun j hj => ⟨?_, ?_⟩, ?_, ?_, fun k => ?_⟩
  · rw [duty_closeLane, habandoned, duty_leftBusy, hduty]
  · rw [list_closeLane, habandoned, list_leftBusy, hlist]
  · rw [duty_closeLane, habandoned, duty_leftBusy, hduties e he]
  · rw [target_closeLane, habandoned, target_leftBusy, htargets]
  · rw [list_closeLane, habandoned, list_leftBusy, (hothers j hj).2.1]
  · rw [lane_closeLane_ne hj, habandoned, lane_leftBusy_ne _ _ _ _ _ _ hj, lane_abandonDuty]
  · rw [inc_closeLane, habandoned, inc_leftBusy, if_neg (by simp), inc_abandonDuty]
  · rw [port_closeLane, habandoned, port_leftBusy, port_abandonDuty]
  · have hlockOf : (s.abandonDuty d).lockOf d = s.lockOf d := by
      rw [State.lockOf, hduty, State.lockOf]
      rfl
    have hquietLock : ((s.abandonedOn l).lane l).quietLock = (s.lane l).quietLock := by
      rw [habandoned, lane_abandoned_duty hkind, lane_abandonDuty]
      unfold Lane.endFrame
      split <;> rfl
    have hlock : (s.abandonedOn l).lock k = if s.lockOf d = some k ∧ s.lock k = some d then none else s.lock k := by
      rw [habandoned, lock_leftBusy_duty _ _ _ _ _ _ hkind, if_neg fun h => h.1 rfl, hlockOf, lock_abandonDuty]
    rw [lock_closeLane, hquietLock, hlock]
    by_cases hholds : s.lockOf d = some k ∧ s.lock k = some d
    · rw [if_pos hholds, ite_self, if_pos (.inl hholds)]
    · simp only [hholds, if_false, false_or]

-- The transaction of a hold

theorem target_holdAbandoned (s : State) (t j : TargetIx) :
    (s.holdAbandoned t).target j =
      if j = t then strandedTarget { s.target t with releasePending := false } else s.target j := by
  rw [State.holdAbandoned, target_setHoldCause, target_passIncident, target_suspendDuties, target_setTarget]

theorem duty_holdAbandoned (s : State) (t : TargetIx) (d : DutyIx) : (s.holdAbandoned t).duty d = (s.duty d).suspendedBy t := by
  rw [State.holdAbandoned, duty_setHoldCause, duty_passIncident, duty_suspendDuties, duty_setTarget]

theorem inc_holdAbandoned (s : State) (t : TargetIx) : (s.holdAbandoned t).inc = (s.inc.pass (abandonedIncident s t)).setHold := by
  rw [State.holdAbandoned, inc_setHoldCause, inc_passIncident, inc_suspendDuties, inc_setTarget]

theorem abandonedOn_of_hold (hrecord : s.record l = some r) (hkind : r.kind = .holdEntry ∨ r.kind = .holdExit) :
    s.abandonedOn l = (s.holdAbandoned r.target).leftBusy l r 0 .abandoned false := by
  rw [abandonedOn_of_some hrecord, takeOutcome_hold hkind]
  rfl

theorem quietLock_abandoned_hold (hkind : r.kind = .holdEntry ∨ r.kind = .holdExit) :
    ((z.leftBusy l r 0 .abandoned false).lane l).quietLock = (z.lane l).quietLock := by
  rw [lane_leftBusy_hold _ _ _ _ _ _ hkind, reported_abandoned]
  unfold Lane.endFrame
  split <;> rfl

end

-- The command

theorem exec_closeLane (s : State) : exec .closeLane s = .next (s.command 0x22 answerCloseLane) := rfl

theorem doneFrom_closeLane {s : State} {l : LaneIx} (hready : s.port.state = .ready)
    (hindex : stagedIndex s.port.staging = l.val) : doneFrom .closeLane s ((s.latch 0x22).closeLane l) [] :=
  doneFrom_of_answer (exec_closeLane s) hready List.nodup_nil (withLane_of_index hindex _)

/-- Settles O52: the lane from the close itself, the rest from the outcome of the transaction that it abandons. -/
theorem closeLaneEndsTheLane : Obligations.CloseLaneEndsTheLane := by
  intro s l hready hindex
  refine ⟨(s.latch 0x22).closeLane l, doneFrom_closeLane hready hindex, lane_closeLane_self _ l, ?_, fun j hj => ?_,
    time_closeLane _ l, busRead_closeLane _ l, pending_closeLane _ l, fun hnone => ?_, fun r d hserves => ?_,
    fun r g hrecord hkind htarget hlane => ?_⟩
  · rw [record_closeLane, if_pos rfl]
  · rw [record_closeLane, if_neg hj, record_latch]
  · have habandoned : (s.latch 0x22).abandonedOn l = s.latch 0x22 := abandonedOn_of_none hnone
    refine ⟨fun d => ?_, fun g => ?_, fun j => ?_, fun j hj => ?_, ?_, ?_, fun k => ?_⟩
    · rw [duty_closeLane, habandoned, duty_latch]
    · rw [target_closeLane, habandoned, target_latch]
    · rw [list_closeLane, habandoned, list_latch]
    · rw [lane_closeLane_ne hj, habandoned, lane_latch]
    · rw [inc_closeLane, habandoned, inc_latch]
    · rw [port_closeLane, habandoned]
    · rw [lock_closeLane, habandoned, lane_latch, lock_latch]
  · exact closeLane_of_serves (s := s.latch 0x22) hserves
  · subst htarget
    have habandoned : (s.latch 0x22).abandonedOn l =
        ((s.latch 0x22).holdAbandoned r.target).leftBusy l r 0 .abandoned false := abandonedOn_of_hold hrecord hkind
    refine ⟨?_, fun h hh => ?_, fun d => ?_, fun j => ?_, fun j hj => ?_, ?_, fun k => ?_, ?_⟩
    · rw [target_closeLane, habandoned, target_leftBusy, target_holdAbandoned, if_pos rfl, target_latch]
      rfl
    · rw [target_closeLane, habandoned, target_leftBusy, target_holdAbandoned, if_neg hh, target_latch]
    · rw [duty_closeLane, habandoned, duty_leftBusy, duty_holdAbandoned, duty_latch]
      rfl
    · rw [list_closeLane, habandoned, list_leftBusy, list_holdAbandoned, list_latch]
    · rw [lane_closeLane_ne hj, habandoned, lane_leftBusy_ne _ _ _ _ _ _ hj, lane_holdAbandoned, lane_latch]
    · rw [port_closeLane, habandoned, port_leftBusy, port_holdAbandoned]
    · rw [lock_closeLane, habandoned, quietLock_abandoned_hold hkind, lock_leftBusy_hold _ _ _ _ _ _ hkind, lane_holdAbandoned,
        lock_holdAbandoned, lane_latch, lock_latch]
    · rw [inc_closeLane, habandoned, inc_leftBusy, if_neg (by simp), inc_holdAbandoned, inc_latch, abandonedIncident, target_latch,
        hlane]
      rfl

end Sys2Proof.Machine

/-! The check byte (O38): each step of the check register is undone by another, so that two lists that differ in one byte leave
different registers (R137). -/

namespace Sys2Proof.Machine

/-- The register before a shift: the bit shifted out is the lowest bit after it, since the polynomial is odd (R137). -/
def crcUnshift (r : Byte) : Byte := if r.getLsbD 0 = true then (r ^^^ 0x07) >>> 1 ||| 0x80 else r >>> 1

theorem crcUnshift_crcShift : ∀ r : Byte, crcUnshift (crcShift r) = r := by decide

theorem crcShift_injective : Function.Injective crcShift := Function.LeftInverse.injective crcUnshift_crcShift

theorem crcByte_eq_iterate (r b : Byte) : crcByte r b = crcShift^[8] (r ^^^ b) := rfl

theorem crcByte_right_injective (r : Byte) : Function.Injective (crcByte r) := fun _ _ h =>
  BitVec.xor_right_inj r |>.mp (crcShift_injective.iterate 8 h)

theorem crcByte_left_injective (b : Byte) : Function.Injective fun r => crcByte r b := fun _ _ h =>
  BitVec.xor_left_inj b |>.mp (crcShift_injective.iterate 8 h)

/-- Bytes behind the difference do not take it away. -/
theorem foldl_crcByte_injective (tail : List Byte) : Function.Injective fun r => tail.foldl crcByte r := by
  induction tail with
  | nil => exact fun _ _ h => h
  | cons b tail ih => exact fun _ _ h => crcByte_left_injective b (ih h)

theorem checkOf_append (bytes tail : List Byte) : checkOf (bytes ++ tail) = tail.foldl crcByte (checkOf bytes) :=
  List.foldl_append

/-- Settles O38: the register after the byte that differs differs, and so it does after every byte behind it. -/
theorem checkByteTellsBytesApart : Obligations.CheckByteTellsBytesApart := by
  refine ⟨⟨rfl, fun bytes b => checkOf_append bytes [b]⟩, rfl, rfl, rfl, by decide +kernel, by decide +kernel, by decide +kernel,
    fun bytes a b tail hne heq => hne ?_⟩
  rw [checkOf_append, checkOf_append] at heq
  exact crcByte_right_injective _ (foldl_crcByte_injective tail heq)

end Sys2Proof.Machine

/-! What the part puts on a link (O60): the symbols of each report by the mode of the lane and the phase of the frame (R132 to
R136), the frames that a deadline cuts off (R139, R140), and the byte made of eight samples. -/

namespace Sys2Proof.Machine

-- The byte made of eight samples

theorem getLsbD_push (r : Byte) (b : Bool) {k : Nat} (hk : k < 8) :
    ((r <<< 1) ||| if b = true then 1 else 0 : Byte).getLsbD k = if k = 0 then b else r.getLsbD (k - 1) := by
  cases k with
  | zero => cases b <;> simp
  | succ k => cases b <;> simp [hk, BitVec.getLsbD_eq_getElem (show k < 8 by omega)]

theorem getLsbD_foldl_push (r : Byte) (bits : List Bool) {k : Nat} (hk : k < 8) :
    (bits.foldl (fun acc b => (acc <<< 1) ||| if b = true then 1 else 0 : Byte → Bool → Byte) r).getLsbD k =
      if k < bits.length then bits.getD (bits.length - 1 - k) false else r.getLsbD (k - bits.length) := by
  induction bits using List.reverseRecOn generalizing k with
  | nil => simp
  | append_singleton bits b ih =>
    rw [List.foldl_append, List.foldl_cons, List.foldl_nil, getLsbD_push _ _ hk]
    cases k with
    | zero => simp
    | succ k =>
      rw [if_neg (Nat.succ_ne_zero k), Nat.add_sub_cancel, ih (by omega)]
      simp only [List.length_append, List.length_singleton, Nat.add_lt_add_iff_right, Nat.add_sub_add_right]
      split
      · next hlt =>
        rw [List.getD_append _ _ _ _ (by omega), Nat.add_sub_cancel, Nat.sub_sub, Nat.add_comm 1 k]
      · rfl

theorem getLsbD_byteOfWire {bits : List Bool} {k : Nat} (hlength : bits.length = 8) (hk : k < 8) :
    (byteOfWire .msbFirst bits).getLsbD k = bits.getD (7 - k) false ∧
      (byteOfWire .lsbFirst bits).getLsbD k = bits.getD k false := by
  constructor
  · rw [byteOfWire, getLsbD_foldl_push _ _ hk, if_pos (by omega), hlength]
  · have hindex : bits.length - 1 - (bits.length - 1 - k) = k := by omega
    rw [byteOfWire, getLsbD_foldl_push _ _ hk, List.length_reverse, if_pos (by omega), List.getD_eq_getElem?_getD,
      List.getElem?_reverse (by omega), hindex, List.getD_eq_getElem?_getD]

section

variable {s : State} {l : LaneIx} {r : InFlight} {v : Byte}

theorem byteRead_select {x : Lane} (h : x.mode = .select) (bits : List Bool) : x.byteRead bits = byteOfWire x.bitOrder bits := by
  rw [Lane.byteRead, Lane.wireOrder, h]

theorem byteRead_addressed {x : Lane} (h : x.mode = .addressed) (bits : List Bool) :
    x.byteRead bits = byteOfWire .msbFirst bits := by
  rw [Lane.byteRead, Lane.wireOrder, h]

/-- The row that the lane reports of eight samples, by what the frame awaits (R70, R133, R136). -/
theorem reportOf_eq (hrecord : s.record l = some r) (hclock : (s.lane l).clockHeld = false) (bits : List Bool) :
    s.reportOf l bits =
      if s.awaitsData r = true then some (.dataByte l ((s.lane l).byteRead bits))
      else if s.awaitsCheck r = true then some (.checkByte l ((s.lane l).byteRead bits))
      else if mayReadStatus r = true then some (.statusRead l ((s.lane l).byteRead bits)) else none := by
  rw [State.reportOf, movingRecord_of_free hclock, hrecord, Option.bind_some]

theorem not_response_of_mayRead (h : r.phase = .request ∨ (r.phase = .wait ∧ r.tickSinceRead = true)) : r.phase ≠ .response := by
  rcases h with h | ⟨h, _⟩ <;> simp [h]

/-- The row of a status byte, of a data byte, and of the check byte. -/
theorem reportOf_byPhase (hrecord : s.record l = some r) (hclock : (s.lane l).clockHeld = false) (bits : List Bool) :
    (r.phase = .request ∨ (r.phase = .wait ∧ r.tickSinceRead = true) →
      s.reportOf l bits = some (.statusRead l ((s.lane l).byteRead bits))) ∧
    (r.phase = .response →
      (r.data.length < s.expectedData r → s.reportOf l bits = some (.dataByte l ((s.lane l).byteRead bits))) ∧
      (s.expectedData r ≤ r.data.length → s.reportOf l bits = some (.checkByte l ((s.lane l).byteRead bits)))) := by
  rw [reportOf_eq hrecord hclock]
  refine ⟨fun hphase => ?_, fun hphase => ⟨fun hlength => ?_, fun hlength => ?_⟩⟩
  · have hresponse := not_response_of_mayRead hphase
    rw [if_neg fun h => hresponse ((awaitsData_iff s r).mp h).1, if_neg fun h => hresponse ((awaitsCheck_iff s r).mp h).1,
      if_pos (mayReadStatus_of hphase)]
  · rw [if_pos ((awaitsData_iff s r).mpr ⟨hphase, hlength⟩)]
  · rw [if_neg fun h => absurd ((awaitsData_iff s r).mp h).2 (by omega), if_pos ((awaitsCheck_iff s r).mpr ⟨hphase, hlength⟩)]

-- The bytes of the request

theorem requestOf_duty {d : DutyIx} (hkind : r.kind = .duty d) :
    s.requestOf r = requestBytes (s.duty d).defn.actionCode (s.duty d).defn.payload := by
  simp only [State.requestOf, hkind]

theorem requestOf_entry (hkind : r.kind = .holdEntry) :
    s.requestOf r = requestBytes (s.target r.target).defn.entryCode (s.target r.target).defn.entryPayload := by
  simp only [State.requestOf, hkind]

theorem requestOf_exit (hkind : r.kind = .holdExit) :
    s.requestOf r = requestBytes (s.target r.target).defn.exitCode (s.target r.target).defn.exitPayload := by
  simp only [State.requestOf, hkind]

theorem addressByte_write (a : Byte) : addressByte a false = a <<< 1 := by simp [addressByte]

theorem addressByte_read (a : Byte) : addressByte a true = a <<< 1 ||| 1 := rfl

theorem addressedRequest_eq (a : Byte) (bytes : List Byte) :
    addressedRequest a bytes = [Symbol.start] ++ addressedByte (a <<< 1) ++ bytes.flatMap addressedByte := by
  rw [addressedRequest, addressByte_write]

-- What comes before a status byte

theorem beforeStatus_addressed_request (hrecord : s.record l = some r) (hmode : (s.lane l).mode = .addressed)
    (hphase : r.phase = .request) :
    s.beforeStatus l r =
      [Symbol.start] ++ addressedByte (s.addressOf r <<< 1) ++ (s.requestOf r).flatMap addressedByte ++ [Symbol.repeatedStart] ++
        addressedByte (s.addressOf r <<< 1 ||| 1) := by
  simp only [State.beforeStatus, pendingStop, State.opening, State.requestFrame, hrecord, hmode, hphase, addressedRequest_eq,
    readPhase, addressByte_read]
  simp [State.addressOf]

theorem beforeStatus_addressed_wait (hmode : (s.lane l).mode = .addressed) (hphase : r.phase = .wait) :
    s.beforeStatus l r = [Symbol.stop, .idleBit, .start] ++ addressedByte (s.addressOf r <<< 1 ||| 1) := by
  simp [State.beforeStatus, pendingStop, State.opening, hmode, hphase, readPhase, addressByte_read]

theorem beforeStatus_select_request (hrecord : s.record l = some r) (hmode : (s.lane l).mode = .select)
    (hphase : r.phase = .request) :
    s.beforeStatus l r =
      [Symbol.selectLow (s.addressOf r).toNat, .idleBit] ++
        (s.requestOf r).flatMap fun b => (wireBits (s.lane l).bitOrder b).map Symbol.bit := by
  simp [State.beforeStatus, pendingStop, State.opening, State.requestFrame, hrecord, hmode, hphase, selectRequest,
    Lane.wireOrder, State.addressOf]

theorem beforeStatus_select_wait (hmode : (s.lane l).mode = .select) (hphase : r.phase = .wait) : s.beforeStatus l r = [] := by
  simp [State.beforeStatus, pendingStop, State.opening, hmode, hphase]

-- A status byte

theorem movesToResponse_iff (v : Byte) : movesToResponse v = true ↔ v = 0x61 ∨ v = 0x62 ∨ v = 0x63 := by
  simp [movesToResponse, or_assoc]

theorem endsReading_iff (r : InFlight) (v : Byte) :
    endsReading r v = true ↔
      (v ≠ 0x61 ∧ v ≠ 0x62 ∧ v ≠ 0x63) ∧ (v ≠ 0x00 ∨ (r.phase = .request ∧ r.deadlinePassed = true)) := by
  have hmoves := (movesToResponse_iff v).not
  rw [Bool.not_eq_true, not_or, not_or] at hmoves
  rw [← hmoves]
  simp [endsReading]

/-- DONE, BUSY or ERROR: the lane reads on (R70). -/
theorem sends_answer (hrecord : s.record l = some r) (hclock : (s.lane l).clockHeld = false) (hread : mayReadStatus r = true)
    (hv : v = 0x61 ∨ v = 0x62 ∨ v = 0x63) :
    s.sends (.statusRead l v) = [s.beforeStatus l r ++ readByte (s.lane l).mode true] := by
  have hends : endsReading r v ≠ true := by
    rw [Ne, endsReading_iff]
    tauto
  rw [sends_statusRead v hrecord hclock hread, State.sentWithStatus, (movesToResponse_iff v).mpr hv, if_neg hends,
    List.append_nil]

/-- A PENDING with which the transaction goes on (R71). -/
theorem sends_pending (hrecord : s.record l = some r) (hclock : (s.lane l).clockHeld = false) (hread : mayReadStatus r = true)
    (hintime : r.phase = .wait ∨ r.deadlinePassed = false) :
    s.sends (.statusRead l 0x00) = [s.beforeStatus l r ++ readByte (s.lane l).mode false] := by
  have hends : endsReading r 0x00 ≠ true := by
    rw [Ne, endsReading_iff]
    rintro ⟨_, h | ⟨hphase, hpassed⟩⟩
    · exact h rfl
    · rcases hintime with h | h
      · simp [hphase] at h
      · simp [hpassed] at h
  rw [sends_statusRead _ hrecord hclock hread, State.sentWithStatus, if_neg hends, List.append_nil]
  rfl

/-- Any other status, and a first PENDING after the deadline, end the frame (R71, R133, R136). -/
theorem sends_ending (hrecord : s.record l = some r) (hclock : (s.lane l).clockHeld = false) (hread : mayReadStatus r = true)
    (hdone : v ≠ 0x61) (hbusy : v ≠ 0x62) (herror : v ≠ 0x63)
    (hends : v ≠ 0x00 ∨ (r.phase = .request ∧ r.deadlinePassed = true)) :
    s.sends (.statusRead l v) =
      [s.beforeStatus l r ++ readByte (s.lane l).mode false ++ frameEnd (s.lane l).mode (s.addressOf r)] := by
  have hmoves : movesToResponse v = false := by
    rw [Bool.eq_false_iff, Ne, movesToResponse_iff]
    tauto
  rw [sends_statusRead _ hrecord hclock hread, State.sentWithStatus, hmoves,
    if_pos ((endsReading_iff r v).mpr ⟨⟨hdone, hbusy, herror⟩, hends⟩)]

-- The bytes of the response

theorem sends_data (hrecord : s.record l = some r) (hclock : (s.lane l).clockHeld = false) (hphase : r.phase = .response)
    (hlength : r.data.length < s.expectedData r) : s.sends (.dataByte l v) = [readByte (s.lane l).mode true] := by
  rw [sends_dataByte v hrecord hclock ((awaitsData_iff s r).mpr ⟨hphase, hlength⟩), State.sentWithData]

theorem sends_check (hrecord : s.record l = some r) (hclock : (s.lane l).clockHeld = false) (hphase : r.phase = .response)
    (hlength : s.expectedData r ≤ r.data.length) :
    s.sends (.checkByte l v) = [readByte (s.lane l).mode false ++ frameEnd (s.lane l).mode (s.addressOf r)] := by
  rw [sends_checkByte v hrecord hclock ((awaitsCheck_iff s r).mpr ⟨hphase, hlength⟩), State.sentWithCheck]

-- A byte that goes unacknowledged

theorem sends_unanswered (hrecord : s.record l = some r) (hclock : (s.lane l).clockHeld = false)
    (hmode : (s.lane l).mode = .addressed) (hread : mayReadStatus r = true) :
    s.sends (.addressNotAcknowledged l) = s.sentUnanswered l r := by
  simp only [State.sends, movingRecord_of_free hclock, hrecord]
  rw [Option.filter_some, if_pos (by simp [Lane.mayMissAddress, hmode, hread])]

theorem sends_refused (hrecord : s.record l = some r) (hclock : (s.lane l).clockHeld = false)
    (hmode : (s.lane l).mode = .addressed) (hphase : r.phase = .request) :
    s.sends (.requestByteRefused l) = s.sentRefused r := by
  simp only [State.sends, movingRecord_of_free hclock, hrecord]
  rw [Option.filter_some, if_pos (by simp [Lane.mayRefuseByte, hmode, hphase])]

-- A deadline that ends the transaction

theorem sends_deadline (hrecord : s.record l = some r) (hreached : r.deadline.toNat ≤ s.now.toNat)
    (hends : r.phase = .wait ∨ (s.lane l).clockHeld = true) : s.sends (.responseDeadline l) = s.sentCutOff l r := by
  simp only [State.sends, responseDue_of hrecord hreached]
  rw [if_pos (deadlineAct_timeout hends)]

theorem sentAbandoned_of_record (hrecord : s.record l = some r) : s.sentAbandoned l = s.sentCutOff l r := by
  rw [State.sentAbandoned, hrecord]

end

end Sys2Proof.Machine

/-! The statement about the link (O60), part by part. -/

namespace Sys2Proof.Machine

section

variable {s : State} {l : LaneIx} {r : InFlight}

theorem readByte_addressed (acknowledged : Bool) :
    readByte .addressed acknowledged = List.replicate 8 Symbol.sample ++ [if acknowledged = true then .ack else .nack] := rfl

theorem readByte_select (acknowledged : Bool) : readByte .select acknowledged = List.replicate 8 Symbol.sample := rfl

theorem frameEnd_addressed (a : Byte) : frameEnd .addressed a = [Symbol.stop, .idleBit] := rfl

theorem frameEnd_select (a : Byte) : frameEnd .select a = [Symbol.selectHigh a.toNat, .idleBit] := rfl

/-- The frame up to an address byte that goes unacknowledged, and to a refused request byte (R135, R136). -/
theorem sentUnanswered_request (hrecord : s.record l = some r) (hmode : (s.lane l).mode = .addressed)
    (hphase : r.phase = .request) :
    s.sentUnanswered l r =
      [[Symbol.start] ++ addressedByte (s.addressOf r <<< 1) ++ [Symbol.stop, .idleBit],
        [Symbol.start] ++ addressedByte (s.addressOf r <<< 1) ++ (s.requestOf r).flatMap addressedByte ++
          [Symbol.repeatedStart] ++ addressedByte (s.addressOf r <<< 1 ||| 1) ++ [Symbol.stop, .idleBit]] := by
  simp only [State.sentUnanswered, hphase, beforeStatus_addressed_request hrecord hmode hphase, addressedRequest_eq,
    frameEnd_addressed, List.flatMap_nil, List.append_nil]

theorem sentUnanswered_wait (hmode : (s.lane l).mode = .addressed) (hphase : r.phase = .wait) :
    s.sentUnanswered l r =
      [[Symbol.stop, .idleBit, .start] ++ addressedByte (s.addressOf r <<< 1 ||| 1) ++ [Symbol.stop, .idleBit]] := by
  simp only [State.sentUnanswered, hphase, beforeStatus_addressed_wait hmode hphase, frameEnd_addressed]

theorem sentRefused_eq :
    s.sentRefused r = (List.range (s.requestOf r).length).map fun k =>
      [Symbol.start] ++ addressedByte (s.addressOf r <<< 1) ++ ((s.requestOf r).take (k + 1)).flatMap addressedByte ++
        [Symbol.stop, .idleBit] := by
  simp only [State.sentRefused, addressedRequest_eq, frameEnd_addressed]

/-- A lane in SELECT mode has no clock line that a target holds (R134). -/
theorem clockHeld_select {x : Lane} (h : x.mode = .select) : x.clockHeld = false := by simp [Lane.clockHeld, h]

/-- With the clock line held, the only stop is the one of a PENDING before (R139, R140). -/
theorem stop_of_cutOff_held (hheld : (s.lane l).clockHeld = true) {f : List Symbol} (hf : f ∈ s.sentCutOff l r) :
    Symbol.stop ∉ f ∨
      (r.phase = .wait ∧ r.tickSinceRead = true ∧ ∃ g, f = [Symbol.stop, .idleBit] ++ g ∧ Symbol.stop ∉ g) := by
  obtain ⟨_, hmode, _⟩ := (clockHeld_iff _).mp hheld
  rcases sentCutOff_held r hheld hf with rfl | ⟨hawaits, g, rfl, hg⟩
  · exact .inl List.not_mem_nil
  · rw [hmode]
    cases hphase : r.phase with
    | wait => exact .inr ⟨rfl, by simpa [awaitsTick, hphase] using hawaits, g, by simp [pendingStop, hphase], hg⟩
    | request | response => exact .inl (by simpa [pendingStop, hphase] using hg)

theorem sentCutOff_stopWaiting (hwaits : (s.lane l).stopWaiting = true) : s.sentCutOff l r = [[]] := by
  simp only [State.sentCutOff]
  rw [if_pos hwaits]

end

/-- Settles O60: each report by the mode and the phase, the deadlines by what they cut off, and the bytes and levels by the
definitions of the symbols. -/
theorem partActsOnTheLink : Obligations.PartActsOnTheLink := by
  refine ⟨?addressed, ?select, ?deadline, ?bytes, ?samples, fun s l r bits hrecord hclock => reportOf_byPhase hrecord hclock bits,
    ?release, ?levels⟩
  case addressed =>
    rintro s l r a bytes hrecord hclock hmode ha rfl
    obtain rfl : a = s.addressOf r := ha
    have hwait : r.phase = .wait → r.tickSinceRead = true → mayReadStatus r = true := fun hphase htick =>
      mayReadStatus_of (.inr ⟨hphase, htick⟩)
    have hrequest : r.phase = .request → mayReadStatus r = true := fun hphase => mayReadStatus_of (.inl hphase)
    refine ⟨fun v hv => ⟨fun hphase => ?_, fun hphase htick => ?_⟩, ⟨fun hphase hintime => ?_, fun hphase htick => ?_⟩,
      fun v hdone hbusy herror => ⟨fun hphase hends => ?_, fun hphase htick hends => ?_⟩,
      fun v hphase => ⟨fun hlength => ?_, fun hlength => ?_⟩, fun hphase => ⟨?_, ?_⟩, fun hphase htick => ?_⟩
    · rw [sends_answer hrecord hclock (hrequest hphase) hv, beforeStatus_addressed_request hrecord hmode hphase, hmode,
        readByte_addressed, if_pos rfl, ← List.append_assoc]
    · rw [sends_answer hrecord hclock (hwait hphase htick) hv, beforeStatus_addressed_wait hmode hphase, hmode,
        readByte_addressed, if_pos rfl, ← List.append_assoc]
    · rw [sends_pending hrecord hclock (hrequest hphase) (.inr hintime), beforeStatus_addressed_request hrecord hmode hphase,
        hmode, readByte_addressed, if_neg Bool.false_ne_true, ← List.append_assoc]
    · rw [sends_pending hrecord hclock (hwait hphase htick) (.inl hphase), beforeStatus_addressed_wait hmode hphase, hmode,
        readByte_addressed, if_neg Bool.false_ne_true, ← List.append_assoc]
    · rw [sends_ending hrecord hclock (hrequest hphase) hdone hbusy herror (hends.imp_right fun h => ⟨hphase, h⟩),
        beforeStatus_addressed_request hrecord hmode hphase, hmode, readByte_addressed, frameEnd_addressed]
      simp
    · rw [sends_ending hrecord hclock (hwait hphase htick) hdone hbusy herror (.inl hends),
        beforeStatus_addressed_wait hmode hphase, hmode, readByte_addressed, frameEnd_addressed]
      simp
    · rw [sends_data hrecord hclock hphase hlength, hmode, readByte_addressed, if_pos rfl]
    · rw [sends_check hrecord hclock hphase hlength, hmode, readByte_addressed, frameEnd_addressed]
      rfl
    · rw [sends_unanswered hrecord hclock hmode (hrequest hphase), sentUnanswered_request hrecord hmode hphase]
    · rw [sends_refused hrecord hclock hmode hphase, sentRefused_eq]
    · rw [sends_unanswered hrecord hclock hmode (hwait hphase htick), sentUnanswered_wait hmode hphase]
  case select =>
    intro s l r a request hrecord hmode ha hrequest hwait
    obtain rfl : a = s.addressOf r := ha
    have hclock := clockHeld_select hmode
    refine ⟨fun v hphase => ?_, fun v hphase => ⟨fun hlength => ?_, fun hlength => ?_⟩⟩
    · have hbefore : s.beforeStatus l r = request := by
        rcases hphase with hphase | ⟨hphase, _⟩
        · rw [beforeStatus_select_request hrecord hmode hphase, hrequest hphase]
        · rw [beforeStatus_select_wait hmode hphase, hwait hphase]
      have hread := mayReadStatus_of hphase
      refine ⟨fun hv => ?_, fun hdone hbusy herror hends => ?_⟩
      · have hkinds : (v = 0x61 ∨ v = 0x62 ∨ v = 0x63) ∨ (v = 0x00 ∧ (r.phase = .wait ∨ r.deadlinePassed = false)) := by
          tauto
        rcases hkinds with hv | ⟨rfl, hintime⟩
        · rw [sends_answer hrecord hclock hread hv, hbefore, hmode, readByte_select]
        · rw [sends_pending hrecord hclock hread hintime, hbefore, hmode, readByte_select]
      · rw [sends_ending hrecord hclock hread hdone hbusy herror hends, hbefore, hmode, readByte_select, frameEnd_select]
    · rw [sends_data hrecord hclock hphase hlength, hmode, readByte_select]
    · rw [sends_check hrecord hclock hphase hlength, hmode, readByte_select, frameEnd_select]
  case deadline =>
    intro s l r hrecord hreached
    refine ⟨fun hphase htick hstop => ?_, fun hheld f hf => ?_, fun hwaits f hf => ?_⟩
    · have hsends := sends_deadline hrecord hreached (.inl hphase)
      have hcut := sentCutOff_awaitsTick hstop (show awaitsTick r = true by simp [awaitsTick, hphase, htick])
      refine ⟨hsends.trans (sentAbandoned_of_record hrecord).symm, fun hheld => ?_, fun hclock hmode => ?_, fun hmode => ?_⟩
      · rw [hsends, hcut, if_pos hheld]
      · rw [hsends, hcut, hclock, hmode, if_neg Bool.false_ne_true, frameEnd_addressed]
      · rw [hsends, hcut, clockHeld_select hmode, hmode, if_neg Bool.false_ne_true, frameEnd_select]
        rfl
    · rw [sends_deadline hrecord hreached (.inr hheld)] at hf
      exact stop_of_cutOff_held hheld hf
    · have hnone : s.sends (.responseDeadline l) = [[]] := by
        simp only [State.sends, responseDue_of hrecord hreached, sentCutOff_stopWaiting hwaits, ite_self]
      rw [hnone] at hf
      exact List.mem_singleton.mp hf
  case bytes =>
    refine ⟨fun _ => rfl, fun _ => ⟨rfl, rfl⟩, fun s r x hx => ⟨fun d y hkind hy => ?_, fun hkind => ?_, fun hkind => ?_⟩⟩
    · rw [requestOf_duty hkind, hy]
      rfl
    · rw [requestOf_entry hkind, hx]
      rfl
    · rw [requestOf_exit hkind, hx]
      rfl
  case samples =>
    exact ⟨fun bits k hlength hk => getLsbD_byteOfWire hlength hk,
      fun x bits => ⟨fun hmode => byteRead_select hmode bits, fun hmode => byteRead_addressed hmode bits⟩⟩
  case release =>
    intro s l
    refine ⟨fun hwaits => ?_, fun hquiet => ?_⟩
    · simp only [State.sends, hwaits, if_true, frameEnd_addressed]
    · simp only [State.sends, hquiet, Bool.false_eq_true, if_false]
  case levels => exact ⟨rfl, rfl, rfl, fun _ => rfl, fun _ _ _ => rfl⟩

end Sys2Proof.Machine
